-- ==== Sys2Proof/Word.lean ====
section
/-! DEFINITION. The word types of the block: a host register word, an f32 bit pattern, a complex value. -/

namespace Sys2Proof

/-- A host register and a command word: 32 bits (R10 `REG_W`, R110). -/
abbrev Word := BitVec 32

/-- An IEEE-754 binary32 bit pattern: sign in bit 31, exponent in [30:23], fraction in [22:0] (R14, R81). -/
abbrev F32 := BitVec 32

/-- A complex value, a pair of f32 values written `z.I` and `z.Q` by the spec (R15). -/
structure Cplx where
  /-- the in-phase component -/
  i : F32
  /-- the quadrature component -/
  q : F32
deriving DecidableEq, Repr

end Sys2Proof
end

