-- ==== Sys2Proof/Machine/Bits.lean ====
section
/-! DEFINITION. Bit fields of a word (R11) and the byte lanes of a register (R81). -/

namespace Sys2Proof.Machine

/-- `v[hi:lo]`, read as an unsigned integer (R11). -/
def bits (v : Word) (hi lo : Nat) : Nat := v.toNat / 2 ^ lo % 2 ^ (hi + 1 - lo)

/-- `v[i]`, one bit (R11). -/
def bit (v : Word) (i : Nat) : Bool := decide (v.toNat / 2 ^ i % 2 = 1)

/-- Byte lane k of a register: little-endian, lane 0 holds `v[7:0]` (R81). -/
def lane (v : Word) (k : Nat) : BitVec 8 := BitVec.ofNat 8 (bits v (8 * k + 7) (8 * k))

/-- The integer 1 for a set flag, 0 for a clear one. -/
def flag (b : Bool) : Nat := if b then 1 else 0

/-- A register word put together from fields given as (lowest bit, width, value), each field taken modulo
its width; every other bit is 0 (R84: reserved bits read as 0). -/
def pack (fields : List (Nat × Nat × Nat)) : Word :=
  BitVec.ofNat 32 (fields.foldr (fun f acc => f.2.2 % 2 ^ f.2.1 * 2 ^ f.1 + acc) 0)

end Sys2Proof.Machine
end

