-- ==== Sys2Proof/Syntax.lean ====
section
/-! DEFINITION. The 16 commands of R121, one constructor per row of spec/opcode_table.json. Operands are the
unsigned integers of R114; their field ranges are checked in WellFormed.lean. -/

namespace Sys2Proof

/-- A command of the block (R121). -/
inductive Instr
  /-- NOP (R310) -/
  | nop
  /-- SOFT_RESET (R312) -/
  | softReset
  /-- SCR_RESET (R141) -/
  | scrReset
  /-- SCR_NEXT (R146) -/
  | scrNext
  /-- SCR_ADVANCE, COUNT = IMM16 (R148) -/
  | scrAdvance (count : Nat)
  /-- MAP_ENC, data tribit D and scrambler tribit S (R178) -/
  | mapEnc (d s : Nat)
  /-- MAP_DEC, scrambler tribit S (R180) -/
  | mapDec (s : Nat)
  /-- TX_SYM, data tribit D (R183) -/
  | txSym (d : Nat)
  /-- RX_SYM (R184) -/
  | rxSym
  /-- LAYOUT_CLASS, POS = IMM16 (R203) -/
  | layoutClass (pos : Nat)
  /-- SYNC_CFG (R222) -/
  | syncCfg
  /-- SYNC_RESET (R226) -/
  | syncReset
  /-- SYNC_PUSH (R228) -/
  | syncPush
  /-- CORR_RESET (R272) -/
  | corrReset
  /-- CORR_PUSH (R274) -/
  | corrPush
  /-- CORR_SWEEP (R278) -/
  | corrSweep
deriving DecidableEq, Repr

end Sys2Proof
end

