-- ==== Sys2Proof/WellFormed.lean ====
section
/-! DEFINITION. Which commands have an encoding: every operand in its field's range (R114, R119). -/

namespace Sys2Proof

/-- A tribit operand fits its 3-bit field (R114: 0 to 7). -/
def tribitFits (t : Nat) : Bool := decide (t ≤ 7)

/-- A 16-bit operand fits its field (R114: 0 to 65535). -/
def imm16Fits (n : Nat) : Bool := decide (n ≤ 65535)

/-- Every operand is in its field's range. One outside is an assembly error (R119); D < N is not checked
here, since N is a run-time value (R115). -/
def Instr.wellFormed : Instr → Bool
  | .nop => true
  | .softReset => true
  | .scrReset => true
  | .scrNext => true
  | .scrAdvance count => imm16Fits count
  | .mapEnc d s => tribitFits d && tribitFits s
  | .mapDec s => tribitFits s
  | .txSym d => tribitFits d
  | .rxSym => true
  | .layoutClass pos => imm16Fits pos
  | .syncCfg => true
  | .syncReset => true
  | .syncPush => true
  | .corrReset => true
  | .corrPush => true
  | .corrSweep => true

end Sys2Proof
end

