-- ==== Sys2Proof/Decode.lean ====
section
/-! DEFINITION. The command decoder (R116) over the opcode map (R121), and the encoder from the same map. -/

namespace Sys2Proof

/-- Why a word is no command (R117); both are ILLEGAL_CMD when the block performs it. -/
inductive DecodeError
  /-- the OP field is in no row of R121 -/
  | unlistedOp
  /-- a bit is 1 that the row's mask covers and its match holds 0 -/
  | reservedBitSet
deriving DecidableEq, Repr

/-- One row of the opcode map R121. -/
structure OpcodeRow where
  op : Nat
  matchBits : Word
  mask : Word
deriving DecidableEq, Repr

/-- The complete opcode map (R121). -/
def opcodeMap : List OpcodeRow :=
  [⟨0x00, 0x00000000, 0xFFFFFFFF⟩, ⟨0x01, 0x01000000, 0xFFFFFFFF⟩,
   ⟨0x10, 0x10000000, 0xFFFFFFFF⟩, ⟨0x11, 0x11000000, 0xFFFFFFFF⟩, ⟨0x12, 0x12000000, 0xFFFF0000⟩,
   ⟨0x20, 0x20000000, 0xFFFFFF88⟩, ⟨0x21, 0x21000000, 0xFFFFFF8F⟩, ⟨0x22, 0x22000000, 0xFFFFFFF8⟩,
   ⟨0x23, 0x23000000, 0xFFFFFFFF⟩, ⟨0x28, 0x28000000, 0xFFFF0000⟩,
   ⟨0x30, 0x30000000, 0xFFFFFFFF⟩, ⟨0x31, 0x31000000, 0xFFFFFFFF⟩, ⟨0x32, 0x32000000, 0xFFFFFFFF⟩,
   ⟨0x40, 0x40000000, 0xFFFFFFFF⟩, ⟨0x41, 0x41000000, 0xFFFFFFFF⟩, ⟨0x42, 0x42000000, 0xFFFFFFFF⟩]

/-- The command of an OP value with the operand fields D = w[2:0], S = w[6:4] and IMM16 = w[15:0], none for
an OP value that R121 does not list. -/
def commandOf (op d s imm16 : Nat) : Option Instr :=
  match op with
  | 0x00 => some .nop
  | 0x01 => some .softReset
  | 0x10 => some .scrReset
  | 0x11 => some .scrNext
  | 0x12 => some (.scrAdvance imm16)
  | 0x20 => some (.mapEnc d s)
  | 0x21 => some (.mapDec s)
  | 0x22 => some (.txSym d)
  | 0x23 => some .rxSym
  | 0x28 => some (.layoutClass imm16)
  | 0x30 => some .syncCfg
  | 0x31 => some .syncReset
  | 0x32 => some .syncPush
  | 0x40 => some .corrReset
  | 0x41 => some .corrPush
  | 0x42 => some .corrSweep
  | _ => none

/-- Decoding a command word (R116): total on all 2^32 words, every word selects one row or is illegal. -/
def decode (w : Word) : Except DecodeError Instr :=
  match opcodeMap.find? (fun r => r.op == Machine.bits w 31 24) with
  | none => .error .unlistedOp
  | some row =>
    if w &&& row.mask = row.matchBits then
      match commandOf row.op (Machine.bits w 2 0) (Machine.bits w 6 4) (Machine.bits w 15 0) with
      | some i => .ok i
      | none => .error .unlistedOp
    else .error .reservedBitSet

/-- The OP field of a command (R121). -/
def opOf : Instr → Nat
  | .nop => 0x00
  | .softReset => 0x01
  | .scrReset => 0x10
  | .scrNext => 0x11
  | .scrAdvance _ => 0x12
  | .mapEnc _ _ => 0x20
  | .mapDec _ => 0x21
  | .txSym _ => 0x22
  | .rxSym => 0x23
  | .layoutClass _ => 0x28
  | .syncCfg => 0x30
  | .syncReset => 0x31
  | .syncPush => 0x32
  | .corrReset => 0x40
  | .corrPush => 0x41
  | .corrSweep => 0x42

/-- The operand bits [23:0] of a command: formats CZ, CT and CN (R112, R113). -/
def operandBits : Instr → Nat
  | .scrAdvance count => count
  | .mapEnc d s => s * 16 + d
  | .mapDec s => s * 16
  | .txSym d => d
  | .layoutClass pos => pos
  | .nop => 0
  | .softReset => 0
  | .scrReset => 0
  | .scrNext => 0
  | .rxSym => 0
  | .syncCfg => 0
  | .syncReset => 0
  | .syncPush => 0
  | .corrReset => 0
  | .corrPush => 0
  | .corrSweep => 0

/-- The word of a well-formed command (R113, R119). -/
def encode (i : Instr) : Word := BitVec.ofNat 32 (opOf i * 2 ^ 24 + operandBits i)

/-- The command the decoder reads from the table's word `w` of `nbits` bits, bit 0 its least significant.
A command is one 32-bit word (R110), so any bit above `nbits` is 0. -/
def decodeTableWord (nbits w : Nat) : Option Instr :=
  match decode (BitVec.ofNat 32 (w % 2 ^ nbits)) with
  | .ok i => some i
  | .error _ => none

end Sys2Proof
end

