-- ==== Sys2Proof/Machine/State.lean ====
section
/-! DEFINITION. The whole state of the block as plain data (10_state.md R32, R53), its state after reset
(R450), the host's events, and the reasons a step can stop. -/

namespace Sys2Proof.Machine

/-- The error codes of R401. Codes 10 to 15 are never recorded, so they have no name here. -/
inductive ErrorCode
  /-- 0: no error recorded since the last clear -/
  | noError
  /-- 1: the CMD word matches no row, or sets a must-be-zero bit -/
  | illegalCmd
  /-- 2: an operand or a written value out of its legal range -/
  | argRange
  /-- 3: a sample or point component NaN, infinite or above 65536 -/
  | sampleInvalid
  /-- 4: ζ or ω not finite and positive, or the gains not finite -/
  | cfgInvalid
  /-- 5: SYNC_PUSH while CFG_VALID = 0 -/
  | notConfigured
  /-- 6: a MODE or LAYOUT write of an illegal value -/
  | modeInvalid
  /-- 7: the window holds fewer samples than the sweep needs -/
  | sweepShort
  /-- 8: the template span holds no PROBE position -/
  | tplEmpty
  /-- 9: a host write while BUSY = 1 -/
  | busyAccess
deriving DecidableEq, Repr

/-- The width of a host access (R82). -/
inductive AccessWidth
  | w8
  | w16
  | w32
  | w64
deriving DecidableEq, Repr

/-- What can happen to the block in one step (R21): a host access at a byte offset from CORE_BASE (R13,
R80), the scheduler's turn to complete the pending command (R311), or the reset input (R450). -/
inductive Event
  /-- `MemRead(off, width)` -/
  | read (width : AccessWidth) (off : Nat)
  /-- `MemWrite(off, width, v)` -/
  | write (width : AccessWidth) (off : Nat) (v : Word)
  /-- the pending command, if there is one, completes now -/
  | complete
  /-- `rst` is asserted and released -/
  | rst
deriving DecidableEq, Repr

/-- The scrambler (R53): bit i of `reg` is stage i; `pos` counts `next()` operations since the last load. -/
structure Scrambler where
  reg : BitVec 12
  pos : Nat
deriving DecidableEq, Repr

/-- The interpolation history st.hist[0..3]; h0 is the newest sample (R53, R230). -/
structure History where
  h0 : Cplx
  h1 : Cplx
  h2 : Cplx
  h3 : Cplx
deriving DecidableEq, Repr

/-- The synchronizer's state (R53). -/
structure Synchronizer where
  alpha : F32
  beta : F32
  cfgValid : Bool
  w : F32
  hist : History
  fill : Nat
  nco : F32
  mu : F32
  e : F32
  integ : F32
  v : F32
  phase : Bool
  ymid : Cplx
  yprev : Cplx
  sym : Cplx
  symValid : Bool
  symCount : BitVec 16
  diverged : Bool
deriving DecidableEq, Repr

/-- The correlator's state (R53). `win` holds WIN[0] to WIN[win_count - 1], oldest first; the entries
beyond, which no rule reads, are not held (R453; log 6). -/
structure Correlator where
  win : List Cplx
  winBase : BitVec 32
  best : Nat
  conf : F32
  acq : Bool
  sweepValid : Bool
deriving DecidableEq, Repr

/-- The state of the block (R32, R53). The last three fields are the model's own. -/
structure State where
  /-- CMD: the last accepted command word (R33) -/
  cmd : Word
  /-- st.pending: the command in flight (R53); BUSY shows whether it exists -/
  pending : Option Word
  /-- STATUS.ERR -/
  err : Bool
  /-- STATUS.ERR_CODE -/
  errCode : ErrorCode
  /-- IRQ_EN -/
  irqEn : BitVec 4
  /-- IRQ_PEND -/
  irqPend : BitVec 4
  /-- MODE (R35) -/
  mode : Word
  /-- LAYOUT (R36) -/
  layout : Word
  /-- TPL (R37) -/
  tpl : Word
  /-- SEARCH (R38) -/
  search : Word
  /-- CORR_THRESH (R39) -/
  corrThresh : F32
  /-- ZETA (R40) -/
  zeta : F32
  /-- OMEGA (R40) -/
  omega : F32
  /-- SAMP_I (R42) -/
  sampI : F32
  /-- SAMP_Q (R42) -/
  sampQ : F32
  /-- PT_I (R43) -/
  ptI : F32
  /-- PT_Q (R43) -/
  ptQ : F32
  /-- RESULT (R44) -/
  result : Word
  /-- SOFT (R45) -/
  soft : F32
  /-- the scrambler -/
  scr : Scrambler
  /-- the synchronizer -/
  sync : Synchronizer
  /-- the correlator -/
  corr : Correlator
  /-- the model's own: the host accesses and scheduler turns still to come, first one first (log 1, log 2) -/
  inbox : List Event
  /-- the model's own: what the host's reads have returned, newest first (log 3) -/
  replies : List Word
  /-- the model's own: the index of the next free value (log 4) -/
  freeCount : Nat
deriving DecidableEq, Repr

/-- Why the machine stops with a fault. No command of the block raises one. -/
inductive Fault
  /-- A host access at an offset outside 0x00..0xFF: there is no register of the block (R80; log 7). Raised by
  the bus checks of `hostRead` and `hostWrite`; safe, since the access is none to this block. -/
  | outsideWindow
deriving DecidableEq, Repr

/-- Why a step is refused. -/
inductive Refusal
  /-- An instruction whose meaning is not modelled yet. Raised by `exec`'s refused arms only, of which there
  are none; safe. -/
  | notModelled (mnemonic : String)
  /-- BUS_WIDTH: a host access that is not 32 bits wide, refused by the bus with no effect (R82). Raised by the
  bus checks; safe, the spec gives such an access no step. -/
  | busWidth
  /-- BUS_ALIGN: a host access whose offset is not a multiple of 4, refused by the bus with no effect (R83).
  Raised by the bus checks; safe, the spec gives such an access no step. -/
  | busAlign
deriving DecidableEq, Repr

/-- The synchronizer after hardware reset (R53, R450). -/
def resetSynchronizer : Synchronizer where
  alpha := 0x00000000
  beta := 0x00000000
  cfgValid := false
  w := 0x3F000000
  hist := ⟨⟨0, 0⟩, ⟨0, 0⟩, ⟨0, 0⟩, ⟨0, 0⟩⟩
  fill := 0
  nco := 0x00000000
  mu := 0x00000000
  e := 0x00000000
  integ := 0x00000000
  v := 0x00000000
  phase := true
  ymid := ⟨0, 0⟩
  yprev := ⟨0, 0⟩
  sym := ⟨0, 0⟩
  symValid := false
  symCount := 0
  diverged := false

/-- The correlator after hardware reset (R53, R450). -/
def resetCorrelator : Correlator where
  win := []
  winBase := 0
  best := 0
  conf := 0x00000000
  acq := false
  sweepValid := false

/-- The block right after hardware reset (R450, R451), with no host access to come. -/
def State.reset : State where
  cmd := 0x00000000
  pending := none
  err := false
  errCode := .noError
  irqEn := 0
  irqPend := 0
  mode := 0x00000400
  layout := 0x000A1020
  tpl := 0x00100020
  search := 0x00000001
  corrThresh := 0x3F000000
  zeta := 0x00000000
  omega := 0x00000000
  sampI := 0x00000000
  sampQ := 0x00000000
  ptI := 0x00000000
  ptQ := 0x00000000
  result := 0x00000000
  soft := 0x00000000
  scr := ⟨0xBAD, 0⟩
  sync := resetSynchronizer
  corr := resetCorrelator
  inbox := []
  replies := []
  freeCount := 0

end Sys2Proof.Machine
end

