-- ==== Sys2Proof/Machine/Flags.lean ====
section
/-! DEFINITION. The STATUS flags, the error codes, the event bits and the interrupt output. -/

namespace Sys2Proof.Machine

/-- STATUS.BUSY: 1 exactly while a command is in flight (R34, R53; log 10). -/
def State.busy (s : State) : Bool := s.pending.isSome

/-- The 4-bit code of an error (R401). -/
def errorNumber : ErrorCode → Nat
  | .noError => 0
  | .illegalCmd => 1
  | .argRange => 2
  | .sampleInvalid => 3
  | .cfgInvalid => 4
  | .notConfigured => 5
  | .modeInvalid => 6
  | .sweepShort => 7
  | .tplEmpty => 8
  | .busyAccess => 9

/-- STATUS as a host reads it (R34, R324). -/
def State.statusWord (s : State) : Word :=
  pack [(0, 1, flag s.busy), (1, 1, flag s.err), (2, 1, flag s.sync.diverged), (3, 1, flag s.sync.cfgValid),
    (4, 1, flag s.sync.symValid), (5, 1, flag s.corr.acq), (6, 1, flag s.corr.sweepValid),
    (8, 4, errorNumber s.errCode)]

/-- The event bits of IRQ_PEND (R52, R410). -/
def errEv : BitVec 4 := 0b0001

/-- SYM_EV: a SYNC_PUSH emitted a symbol (R410). -/
def symEv : BitVec 4 := 0b0010

/-- ACQ_EV: a CORR_SWEEP completed with ACQ = 1 (R410). -/
def acqEv : BitVec 4 := 0b0100

/-- DIV_EV: a SYNC_PUSH clamped the loop (R410). -/
def divEv : BitVec 4 := 0b1000

/-- The interrupt output: a level, high while an enabled event is pending (R411). -/
def State.irq (s : State) : Bool := s.irqPend &&& s.irqEn != 0

end Sys2Proof.Machine
end

