-- ==== Sys2Proof/Config.lean ====
section
/-! DEFINITION. What the implementation fixes (R10) and the free values: constants without a body, about
which nothing can be proved, that stand for what the spec leaves open. -/

namespace Sys2Proof.Config

/-- `MAP_BYTES`: the size of the register window in bytes (R10, R32). -/
def mapBytes : Nat := 256

/-- `SCR_PERIOD`: tribits after which the scrambler sequence repeats (R10, D16). -/
def scrPeriod : Nat := 160

/-- `SCR_CLK`: internal clocks per `next()` (R10). -/
def scrClk : Nat := 8

/-- `HIST_LEN`: complex samples of interpolation history (R10, D31). -/
def histLen : Nat := 4

/-- `WIN_SIZE`: capacity of the correlator window, complex samples (R10, D37; U23). -/
def winSize : Nat := 4096

/-- `TPL_MAX`: the largest template length, symbols (R10, D39). -/
def tplMax : Nat := 256

/-- `SEARCH_MAX`: the largest search range, sample offsets (R10, D41). -/
def searchMax : Nat := 4096

/-- The n-th unspecified word: what a host read of an offset other than STATUS returns while BUSY = 1
(R466, U2; log 4). -/
opaque freeRead : Nat → Word

/-- The five f32 operations that can produce a NaN (R14). -/
inductive FloatOp
  | add
  | sub
  | mul
  | div
  | sqrt
deriving DecidableEq, Repr

/-- Which NaN an operation gives on operands whose IEEE-754 result is a NaN: R14 names no bit pattern
(log 5). Where this constant is no NaN the model uses another pattern that is one (`Machine.nanOf`). -/
opaque nanResult : FloatOp → F32 → F32 → F32

end Sys2Proof.Config
end

