-- ==== Sys2Proof/Machine/Float.lean ====
section
/-! DEFINITION. IEEE-754 binary32 arithmetic on bit patterns (R14): round to nearest, ties to even,
subnormals kept, no fused operation. Every finite value is an integer multiple of 2^-149, so each operation
is computed exactly on integers and rounded once. -/

namespace Sys2Proof.Machine

/-- +0.0 -/
def fzero : F32 := 0x00000000

/-- 0.5 -/
def fhalf : F32 := 0x3F000000

/-- 1.0 -/
def fone : F32 := 0x3F800000

/-- 1.5 -/
def fonehalf : F32 := 0x3FC00000

/-- 2.0 -/
def ftwo : F32 := 0x40000000

/-- 4.0 -/
def ffour : F32 := 0x40800000

/-- The largest f32 below 1 (R232). -/
def fbelowOne : F32 := 0x3F7FFFFF

/-- SAMPLE_MAX = 65536.0 (R10, R406). -/
def sampleMax : F32 := 0x47800000

/-- The sign bit. -/
def signBit (a : F32) : Bool := decide (2 ^ 31 ≤ a.toNat)

/-- The pattern without its sign bit, as an integer; it grows with the magnitude. -/
def magBits (a : F32) : Nat := a.toNat % 2 ^ 31

/-- The magnitude pattern of infinity; greater ones are NaNs. -/
def infMag : Nat := 0x7F800000

/-- `is_finite(a)`: neither an infinity nor a NaN (R14). -/
def isFinite (a : F32) : Bool := decide (magBits a < infMag)

/-- a is a NaN. -/
def isNaN (a : F32) : Bool := decide (infMag < magBits a)

/-- a is an infinity. -/
def isInf (a : F32) : Bool := decide (magBits a = infMag)

/-- The magnitude of a finite a in units of 2^-149: an exact integer. -/
def scaled (a : F32) : Nat :=
  let e := magBits a / 2 ^ 23
  let f := magBits a % 2 ^ 23
  if e = 0 then f else (2 ^ 23 + f) * 2 ^ (e - 1)

/-- The value of a finite a in units of 2^-149, signed. -/
def scaledInt (a : F32) : Int := if signBit a then -(scaled a : Int) else scaled a

/-- The position of a in the order of the numbers; both zeros stand at 0. -/
def orderKey (a : F32) : Int := if signBit a then -(magBits a : Int) else magBits a

/-- `flt(a,b)`: a < b, false when an operand is NaN (R14). -/
def flt (a b : F32) : Bool := !isNaN a && !isNaN b && decide (orderKey a < orderKey b)

/-- `fle(a,b)`: a ≤ b, false when an operand is NaN (R14). -/
def fle (a b : F32) : Bool := !isNaN a && !isNaN b && decide (orderKey a ≤ orderKey b)

/-- `fgt(a,b)`: a > b (R14). -/
def fgt (a b : F32) : Bool := flt b a

/-- `fge(a,b)`: a ≥ b (R14). -/
def fge (a b : F32) : Bool := fle b a

/-- `feq(a,b)`: IEEE equality, so -0.0 equals +0.0 (R14). -/
def feq (a b : F32) : Bool := !isNaN a && !isNaN b && decide (orderKey a = orderKey b)

/-- `fabs(a)` clears the sign bit (R14). -/
def fabs (a : F32) : F32 := a &&& 0x7FFFFFFF

/-- `fneg(a)` flips the sign bit (R236). -/
def fneg (a : F32) : F32 := a ^^^ 0x80000000

/-- The pattern with the given sign and magnitude bits. -/
def withSign (s : Bool) (m : Nat) : F32 := BitVec.ofNat 32 (if s then 2 ^ 31 + m else m)

/-- The NaN an operation gives: a free NaN pattern, R14 names none (log 5). -/
def nanOf (op : Config.FloatOp) (a b : F32) : F32 :=
  if isNaN (Config.nanResult op a b) then Config.nanResult op a b else 0x7FC00000

/-- The exponent step for a magnitude n: results are multiples of 2^roundShift (in the unit of n), so that
24 significant bits are kept, or all of them where n is smaller. -/
def roundShift (n : Nat) : Nat := Nat.log2 n - 23

/-- q, or q + 1 where the rest is above one half, or is one half and q is odd: nearest, ties to even. The
rest is given by its comparison with one half. -/
def nearestEven (q : Nat) (rest : Ordering) : Nat :=
  match rest with
  | .lt => q
  | .eq => q + q % 2
  | .gt => q + 1

/-- The magnitude pattern of `q * 2^k` (in units of 2^-149), where q has at most 24 bits, or is 2^24: a
carry out of the fraction raises the exponent, and a magnitude past the largest finite one is infinity. -/
def packMag (k q : Nat) : Nat := min (k * 2 ^ 23 + q) infMag

/-- The magnitude pattern of the exact non-negative rational `num / den` (in units of 2^-149), rounded to
nearest, ties to even (R14). -/
def roundRatio (num den : Nat) : Nat :=
  let k := roundShift (num / den)
  let d := den * 2 ^ k
  packMag k (nearestEven (num / d) (compare (2 * (num % d)) d))

/-- `fadd(a,b)` (R14). An exact zero sum is +0.0 unless both operands are negative. -/
def fadd (a b : F32) : F32 :=
  if isNaN a || isNaN b then nanOf .add a b
  else if isInf a then (if isInf b && signBit a != signBit b then nanOf .add a b else a)
  else if isInf b then b
  else
    let n := scaledInt a + scaledInt b
    if n = 0 then withSign (signBit a && signBit b) 0
    else withSign (decide (n < 0)) (roundRatio n.natAbs 1)

/-- `fsub(a,b)` (R14). -/
def fsub (a b : F32) : F32 :=
  if isNaN a || isNaN b then nanOf .sub a b
  else if isInf a then (if isInf b && signBit a == signBit b then nanOf .sub a b else a)
  else if isInf b then fneg b
  else
    let n := scaledInt a - scaledInt b
    if n = 0 then withSign (signBit a && !signBit b) 0
    else withSign (decide (n < 0)) (roundRatio n.natAbs 1)

/-- `fmul(a,b)` (R14). -/
def fmul (a b : F32) : F32 :=
  let s := signBit a != signBit b
  if isNaN a || isNaN b then nanOf .mul a b
  else if isInf a || isInf b then
    (if magBits a = 0 ∨ magBits b = 0 then nanOf .mul a b else withSign s infMag)
  else withSign s (roundRatio (scaled a * scaled b) (2 ^ 149))

/-- `fdiv(a,b)` (R14). -/
def fdiv (a b : F32) : F32 :=
  let s := signBit a != signBit b
  if isNaN a || isNaN b then nanOf .div a b
  else if isInf a then (if isInf b then nanOf .div a b else withSign s infMag)
  else if isInf b then withSign s 0
  else if magBits b = 0 then (if magBits a = 0 then nanOf .div a b else withSign s infMag)
  else withSign s (roundRatio (scaled a * 2 ^ 149) (scaled b))

/-- One bit of the integer square root, from the highest candidate bit down. -/
def isqrtFrom (n : Nat) : Nat → Nat → Nat
  | 0, r => r
  | k + 1, r => isqrtFrom n k (if (r + 2 ^ k) * (r + 2 ^ k) ≤ n then r + 2 ^ k else r)

/-- The integer square root: the greatest r with r * r ≤ n. -/
def isqrt (n : Nat) : Nat := isqrtFrom n (Nat.log2 n / 2 + 1) 0

/-- The magnitude pattern of the exact square root of n (in units of 2^-149), rounded to nearest, ties to
even: the rest is compared with one half by comparing 4n with the square of the odd midpoint. -/
def roundSqrt (n : Nat) : Nat :=
  let k := roundShift (isqrt n)
  let q := isqrt n / 2 ^ k
  packMag k (nearestEven q (compare (4 * n) (((2 * q + 1) * 2 ^ k) * ((2 * q + 1) * 2 ^ k))))

/-- `fsqrt(a)` (R14). The square root of -0.0 is -0.0; of another negative number, a NaN. -/
def fsqrt (a : F32) : F32 :=
  if isNaN a then nanOf .sqrt a a
  else if magBits a = 0 then a
  else if signBit a then nanOf .sqrt a a
  else if isInf a then a
  else withSign false (roundSqrt (scaled a * 2 ^ 149))

/-- The f32 of a non-negative integer, rounded to nearest even; exact up to 2^24 (used for SPS in R318). -/
def fofNat (n : Nat) : F32 := withSign false (roundRatio (n * 2 ^ 149) 1)

/-- `re_dot(a, c)` = Re of a·conj(c) (R15). -/
def reDot (a c : Cplx) : F32 := fadd (fmul a.i c.i) (fmul a.q c.q)

/-- `im_cross(a, c)` = Im of a·conj(c) (R15). -/
def imCross (a c : Cplx) : F32 := fsub (fmul a.q c.i) (fmul a.i c.q)

/-- `energy(a)` = |a|² (R15). -/
def energy (a : Cplx) : F32 := fadd (fmul a.i a.i) (fmul a.q a.q)

/-- The complex value (+0.0, +0.0). -/
def czero : Cplx := ⟨fzero, fzero⟩

end Sys2Proof.Machine
end

