-- ==== Sys2Proof/Machine/Operands.lean ====
section
/-! DEFINITION. What a command reads besides its word: the derived configuration values (R54), the f32 input
registers, and the validity of samples and points (R177, R227, R406). -/

namespace Sys2Proof.Machine

/-- N: 8 for MODE.ORDER = 0, else 4 (R35, R54). -/
def State.order (s : State) : Nat := if bits s.mode 0 0 = 0 then 8 else 4

/-- SPS: samples per symbol, MODE[15:8] (R35, R54). -/
def State.sps (s : State) : Nat := bits s.mode 15 8

/-- D: data symbols per mini-frame, LAYOUT[7:0] (R36, R54). -/
def State.dataRun (s : State) : Nat := bits s.layout 7 0

/-- P: probe symbols per mini-frame, LAYOUT[15:8] (R36, R54). -/
def State.probeRun (s : State) : Nat := bits s.layout 15 8

/-- M: mini-frames per superframe, LAYOUT[23:16] (R36, R54). -/
def State.mfPerSf (s : State) : Nat := bits s.layout 23 16

/-- MF_LEN = D + P (R54). -/
def State.mfLen (s : State) : Nat := s.dataRun + s.probeRun

/-- SF_LEN = MF_LEN × M (R54). -/
def State.sfLen (s : State) : Nat := s.mfLen * s.mfPerSf

/-- TPL_START, TPL[15:0] (R37). -/
def State.tplStart (s : State) : Nat := bits s.tpl 15 0

/-- L: TPL_LEN, TPL[24:16] (R37). -/
def State.tplLen (s : State) : Nat := bits s.tpl 24 16

/-- SEARCH_LEN, SEARCH[12:0] (R38). -/
def State.searchLen (s : State) : Nat := bits s.search 12 0

/-- The complex input sample (SAMP_I, SAMP_Q) (R42). -/
def State.sample (s : State) : Cplx := ⟨s.sampI, s.sampQ⟩

/-- The constellation point (PT_I, PT_Q) (R43). -/
def State.point (s : State) : Cplx := ⟨s.ptI, s.ptQ⟩

/-- One component is finite and at most 65536 in magnitude (R406). -/
def validComponent (a : F32) : Bool := isFinite a && fle (fabs a) sampleMax

/-- `valid_sample(z)` and `valid_point(z)` (R177, R227, R406). -/
def validSample (z : Cplx) : Bool := validComponent z.i && validComponent z.q

/-- `valid_cfg(z, w)` before the gains: both finite and positive (R223). -/
def positiveFinite (a : F32) : Bool := isFinite a && fgt a fzero

/-- WIN_COUNT: the number of samples the window holds (R51; log 6). -/
def Correlator.winCount (c : Correlator) : Nat := c.win.length

/-- The canonical form of the window: at most WIN_SIZE samples (R53; log 6). -/
def Correlator.wf (c : Correlator) : Bool := decide (c.winCount ≤ Config.winSize)

/-- WIN[i]. No rule reads one with i ≥ win_count (R53, R279). -/
def Correlator.winAt (c : Correlator) (i : Nat) : Cplx := c.win.getD i czero

end Sys2Proof.Machine
end

