-- ==== Sys2Proof/Machine/Ops.lean ====
section
/-! DEFINITION. The operations the commands and the host writes share: recording an error (this block's
exception) and acknowledging it, events, RESULT, the resets of the units, the window and the history. -/

namespace Sys2Proof.Machine

/-- What every command and access answers. -/
abbrev Result := Host.Outcome State Fault Refusal

/-- `record_error(c)` (R402): ERR set, the most recent code wins, ERR_EV pending. Nothing is saved, nothing
jumps, no mode changes (R400, R413). -/
def State.recordError (s : State) (c : ErrorCode) : State :=
  { s with err := true, errCode := c, irqPend := s.irqPend ||| errEv }

/-- `raise Error(c)`: the failing command or write is abandoned with no effect but the record (R403). -/
def raiseError (c : ErrorCode) (s : State) : Result := .next (s.recordError c)

/-- `status_w1c(v)` (R315): the host's acknowledgement of an error and of divergence. -/
def State.statusW1c (s : State) (v : Word) : State :=
  { s with
    err := if bit v 1 then false else s.err
    errCode := if bit v 1 then .noError else s.errCode
    sync := { s.sync with diverged := if bit v 2 then false else s.sync.diverged } }

/-- The IRQ_PEND write (R316): the host's acknowledgement of events, the nearest thing to a return from an
interrupt (R414). -/
def State.irqAck (s : State) (v : Word) : State :=
  { s with irqPend := s.irqPend &&& ~~~(v.setWidth 4) }

/-- Set the event bit `ev` in IRQ_PEND where `b` holds; bits already set stay set (R410). -/
def State.raiseEvent (s : State) (b : Bool) (ev : BitVec 4) : State :=
  { s with irqPend := if b then s.irqPend ||| ev else s.irqPend }

/-- RESULT from its four fields (R44); a field a command does not define is given as 0. -/
def resultWord (tribit index strib cls : Nat) : Word :=
  pack [(0, 3, tribit), (4, 3, index), (8, 3, strib), (12, 1, cls)]

/-- Write RESULT whole (R44). -/
def State.setResult (s : State) (tribit index strib cls : Nat) : State :=
  { s with result := resultWord tribit index strib cls }

/-- Write the point registers (R43). -/
def State.setPoint (s : State) (c : Cplx) : State := { s with ptI := c.i, ptQ := c.q }

/-- SCR_INIT (R140). -/
def scrInit : BitVec 12 := 0xBAD

/-- The scrambler loaded with SCR_INIT at position 0 (R141). -/
def loadedScrambler : Scrambler := ⟨scrInit, 0⟩

/-- Put the scrambler. -/
def State.setScr (s : State) (c : Scrambler) : State := { s with scr := c }

/-- Put the synchronizer. -/
def State.setSync (s : State) (y : Synchronizer) : State := { s with sync := y }

/-- Put the correlator. -/
def State.setCorr (s : State) (c : Correlator) : State := { s with corr := c }

/-- An interpolation history of zeros. -/
def zeroHistory : History := ⟨czero, czero, czero, czero⟩

/-- `sync_reset()` (R225): the gains, CFG_VALID, W and DIVERGED stay. -/
def syncReset (y : Synchronizer) : Synchronizer :=
  { y with
    hist := zeroHistory, fill := 0
    nco := fzero, mu := fzero, e := fzero, integ := fzero, v := fzero
    phase := true
    ymid := czero, yprev := czero, sym := czero
    symCount := 0, symValid := false }

/-- `corr_reset()` (R271). -/
def corrReset (_c : Correlator) : Correlator :=
  { win := [], winBase := 0, best := 0, conf := fzero, acq := false, sweepValid := false }

/-- `unit_reset()` (R313). -/
def State.unitReset (s : State) : State :=
  { s with scr := loadedScrambler, sync := syncReset s.sync, corr := corrReset s.corr }

/-- `shift_in(x)` (R230). -/
def shiftIn (h : History) (x : Cplx) : History := ⟨x, h.h0, h.h1, h.h2⟩

/-- `corr_append(x)` (R273): append, or slide by one sample when the window is full. -/
def corrAppend (c : Correlator) (x : Cplx) : Correlator :=
  if c.winCount < Config.winSize then { c with win := c.win ++ [x] }
  else { c with win := c.win.tail ++ [x], winBase := c.winBase + 1 }

/-- Hardware reset (R450): every register and every internal item at its reset value, a command in flight
discarded. What the host will still do, what it has read and the index of the free values are not the
block's. -/
def State.hardReset (s : State) : State :=
  { State.reset with inbox := s.inbox, replies := s.replies, freeCount := s.freeCount }

end Sys2Proof.Machine
end

