-- ==== Sys2Proof/Machine/Bus.lean ====
section
/-! DEFINITION. The register window (10_state.md R32) and the host's accesses to it (20_memory.md,
45_control.md R314 to R324, 70_reset_and_hazards.md R465 and R466). -/

namespace Sys2Proof.Machine

/-- The 34 registers of the window (R32). -/
inductive Reg
  | id
  | cmd
  | status
  | irqEn
  | irqPend
  | mode
  | layout
  | tpl
  | search
  | corrThresh
  | zeta
  | omega
  | alpha
  | beta
  | sampI
  | sampQ
  | ptI
  | ptQ
  | result
  | soft
  | scrState
  | syncStat
  | syncMu
  | syncErr
  | syncInteg
  | syncNco
  | syncVctl
  | syncW
  | symI
  | symQ
  | corrBest
  | corrConf
  | winCount
  | winBase
deriving DecidableEq, Repr

/-- The registers in the order of their offsets 0x00, 0x04, ... 0x84 (R32). -/
def regOrder : List Reg :=
  [.id, .cmd, .status, .irqEn, .irqPend, .mode, .layout, .tpl, .search, .corrThresh, .zeta, .omega] ++
  [.alpha, .beta, .sampI, .sampQ, .ptI, .ptQ, .result, .soft, .scrState, .syncStat, .syncMu, .syncErr] ++
  [.syncInteg, .syncNco, .syncVctl, .syncW, .symI, .symQ, .corrBest, .corrConf, .winCount, .winBase]

/-- The register at a word-aligned offset, none for a reserved one (R32, R84). -/
def regAt (off : Nat) : Option Reg := regOrder[off / 4]?

/-- The constant of the ID register (R31). -/
def idConstant : Word := 0x4D313130

/-- The current value of a register (R324, and R31 to R52 for each). -/
def readReg (r : Reg) (s : State) : Word :=
  match r with
  | .id => idConstant
  | .cmd => s.cmd
  | .status => s.statusWord
  | .irqEn => s.irqEn.setWidth 32
  | .irqPend => s.irqPend.setWidth 32
  | .mode => s.mode
  | .layout => s.layout
  | .tpl => s.tpl
  | .search => s.search
  | .corrThresh => s.corrThresh
  | .zeta => s.zeta
  | .omega => s.omega
  | .alpha => s.sync.alpha
  | .beta => s.sync.beta
  | .sampI => s.sampI
  | .sampQ => s.sampQ
  | .ptI => s.ptI
  | .ptQ => s.ptQ
  | .result => s.result
  | .soft => s.soft
  | .scrState => pack [(0, 12, s.scr.reg.toNat), (16, 8, s.scr.pos)]
  | .syncStat => pack [(0, 3, s.sync.fill), (3, 1, flag s.sync.phase), (16, 16, s.sync.symCount.toNat)]
  | .syncMu => s.sync.mu
  | .syncErr => s.sync.e
  | .syncInteg => s.sync.integ
  | .syncNco => s.sync.nco
  | .syncVctl => s.sync.v
  | .syncW => s.sync.w
  | .symI => s.sync.sym.i
  | .symQ => s.sync.sym.q
  | .corrBest => pack [(0, 12, s.corr.best)]
  | .corrConf => s.corr.conf
  | .winCount => pack [(0, 13, s.corr.winCount)]
  | .winBase => s.corr.winBase

/-- The value of a word slot of the window: reserved offsets read as 0 (R84). -/
def readSlot (off : Nat) (s : State) : Word :=
  match regAt off with
  | some r => readReg r s
  | none => 0

/-- The bus checks of an access (R80, R82, R83): what the bus answers in its place, none where it passes. -/
def busCheck (width : AccessWidth) (off : Nat) : Option Result :=
  if Config.mapBytes ≤ off then some (.fault .outsideWindow)
  else if width ≠ .w32 then some (.refused .busWidth)
  else if off % 4 ≠ 0 then some (.refused .busAlign)
  else none

/-- The host receives a word. -/
def State.reply (s : State) (v : Word) : State := { s with replies := v :: s.replies }

/-- `MemRead(off, width)` (R324). While BUSY = 1 an offset other than STATUS gives an unspecified word and
no side effect (R466): the next free value (log 4). -/
def hostRead (width : AccessWidth) (off : Nat) (s : State) : Result :=
  match busCheck width off with
  | some r => r
  | none =>
    if s.busy && regAt off != some .status then
      .next { s.reply (Config.freeRead s.freeCount) with freeCount := s.freeCount + 1 }
    else .next (s.reply (readSlot off s))

/-- `issue(v)` (R311). -/
def State.issue (s : State) (v : Word) : State := { s with cmd := v, pending := some v }

/-- A mode change (R318): unit reset, and W from the new SPS. -/
def State.modeChanged (s : State) : State :=
  let t := s.unitReset
  { t with sync := { t.sync with w := fdiv ftwo (fofNat s.sps) } }

/-- The MODE write (R318): SPS 4 to 64. -/
def modeWrite (v : Word) (s : State) : State :=
  if bits v 15 8 < 4 ∨ 64 < bits v 15 8 then s.recordError .modeInvalid
  else { s with mode := v &&& 0x0000FF01 }.modeChanged

/-- The LAYOUT write (R318): D + P at least 1, M at least 1. -/
def layoutWrite (v : Word) (s : State) : State :=
  if bits v 7 0 + bits v 15 8 < 1 ∨ bits v 23 16 < 1 then s.recordError .modeInvalid
  else { s with layout := v &&& 0x00FFFFFF }.modeChanged

/-- The TPL write (R319). -/
def tplWrite (v : Word) (s : State) : State :=
  if bits v 24 16 < 1 ∨ Config.tplMax < bits v 24 16 then s.recordError .argRange
  else { s with tpl := v &&& 0x01FFFFFF }

/-- The SEARCH write (R320). -/
def searchWrite (v : Word) (s : State) : State :=
  if bits v 12 0 < 1 ∨ Config.searchMax < bits v 12 0 then s.recordError .argRange
  else { s with search := BitVec.ofNat 32 (bits v 12 0) }

/-- A CORR_THRESH value is legal: finite and in [0, 1], -0.0 among them (R39, R321). -/
def validThresh (v : F32) : Bool := isFinite v && fge v fzero && fle v fone

/-- The CORR_THRESH write (R321). -/
def threshWrite (v : Word) (s : State) : State :=
  if validThresh v then { s with corrThresh := v } else s.recordError .argRange

/-- A write of v to a register while BUSY = 0 (R314). Writes to read-only registers are ignored (R84). -/
def writeReg (r : Reg) (v : Word) (s : State) : State :=
  match r with
  | .cmd => s.issue v
  | .status => s.statusW1c v
  | .irqEn => { s with irqEn := v.setWidth 4 }
  | .irqPend => s.irqAck v
  | .mode => modeWrite v s
  | .layout => layoutWrite v s
  | .tpl => tplWrite v s
  | .search => searchWrite v s
  | .corrThresh => threshWrite v s
  | .zeta => { s with zeta := v }
  | .omega => { s with omega := v }
  | .sampI => { s with sampI := v }
  | .sampQ => { s with sampQ := v }
  | .ptI => { s with ptI := v }
  | .ptQ => { s with ptQ := v }
  | .id => s
  | .alpha => s
  | .beta => s
  | .result => s
  | .soft => s
  | .scrState => s
  | .syncStat => s
  | .syncMu => s
  | .syncErr => s
  | .syncInteg => s
  | .syncNco => s
  | .syncVctl => s
  | .syncW => s
  | .symI => s
  | .symQ => s
  | .corrBest => s
  | .corrConf => s
  | .winCount => s
  | .winBase => s

/-- `host_write(off, v)` (R314) after the bus checks: dropped with BUSY_ACCESS while BUSY = 1 (R465); writes
to reserved offsets are ignored (R84). -/
def writeSlot (off : Nat) (v : Word) (s : State) : State :=
  if s.busy then s.recordError .busyAccess
  else
    match regAt off with
    | some r => writeReg r v s
    | none => s

/-- `MemWrite(off, width, v)` (R314). -/
def hostWrite (width : AccessWidth) (off : Nat) (v : Word) (s : State) : Result :=
  match busCheck width off with
  | some r => r
  | none => .next (writeSlot off v s)

end Sys2Proof.Machine
end

