-- ==== Sys2Proof/Machine/Control.lean ====
section
/-! DEFINITION. The control commands NOP and SOFT_RESET (45_control.md). -/

namespace Sys2Proof.Machine

/-- NOP (R310): nothing. -/
def execNop (s : State) : Result := .next s

/-- SOFT_RESET (R312): `unit_reset()`. -/
def execSoftReset (s : State) : Result := .next s.unitReset

end Sys2Proof.Machine
end

