-- ==== Sys2Proof/Machine/Scrambling.lean ====
section
/-! DEFINITION. The scrambler and its commands SCR_RESET, SCR_NEXT and SCR_ADVANCE (40_scrambler.md). -/

namespace Sys2Proof.Machine

/-- SCR_FB, the feedback mask: bits 6, 4, 1 and 0 (R140). -/
def scrFb : BitVec 12 := 0x053

/-- `scr_clock(r)`, one internal clock (R142). -/
def scrClock (r : BitVec 12) : BitVec 12 :=
  if r.toNat / 2 ^ 11 = 1 then (r <<< 1) ^^^ scrFb else r <<< 1

/-- n internal clocks. -/
def scrClocks : Nat → BitVec 12 → BitVec 12
  | 0, r => r
  | n + 1, r => scrClocks n (scrClock r)

/-- `scr_next()` (R143): the new scrambler state, and the tribit read after the 8th clock. -/
def scrNext (c : Scrambler) : Scrambler × Nat :=
  let r := scrClocks Config.scrClk c.reg
  let t := r.toNat % 8
  (if c.pos = Config.scrPeriod - 1 then loadedScrambler else ⟨r, c.pos + 1⟩, t)

/-- `scr_advance(n)` (R147), given the tribit `t` of the operation before: n `next()` operations and the
last tribit. -/
def scrAdvance : Nat → Scrambler × Nat → Scrambler × Nat
  | 0, p => p
  | n + 1, p => scrAdvance n (scrNext p.1)

/-- The scrambler sequence S[0..159], the ROM of R144. -/
def scrRom : List Nat :=
  [0, 2, 4, 3, 3, 6, 4, 5, 7, 6, 7, 0, 5, 5, 4, 3] ++
  [5, 4, 3, 7, 0, 7, 6, 2, 6, 2, 4, 6, 7, 2, 4, 7] ++
  [5, 5, 7, 0, 7, 3, 3, 3, 7, 3, 3, 1, 4, 2, 3, 7] ++
  [0, 2, 7, 7, 3, 5, 1, 0, 1, 4, 0, 5, 0, 0, 0, 0] ++
  [7, 5, 1, 4, 5, 4, 2, 0, 6, 1, 4, 7, 5, 0, 1, 0] ++
  [3, 0, 3, 1, 3, 5, 1, 2, 5, 0, 1, 7, 1, 4, 6, 0] ++
  [2, 3, 3, 4, 2, 5, 2, 5, 4, 5, 7, 3, 1, 0, 1, 6] ++
  [4, 1, 1, 2, 1, 4, 1, 5, 4, 2, 7, 4, 5, 1, 6, 4] ++
  [6, 3, 6, 4, 5, 0, 3, 6, 4, 0, 1, 6, 3, 3, 5, 7] ++
  [0, 5, 7, 7, 2, 5, 2, 7, 7, 4, 7, 5, 5, 0, 5, 6]

/-- `S[k mod 160]` (R144). -/
def scrS (k : Nat) : Nat := scrRom.getD (k % Config.scrPeriod) 0

/-- SCR_RESET (R141). -/
def execScrReset (s : State) : Result := .next (s.setScr loadedScrambler)

/-- SCR_NEXT (R146). -/
def execScrNext (s : State) : Result :=
  let (c, t) := scrNext s.scr
  .next ((s.setScr c).setResult 0 0 t 0)

/-- SCR_ADVANCE (R148): COUNT = 0 changes nothing, not even RESULT. -/
def execScrAdvance (count : Nat) (s : State) : Result :=
  if count = 0 then .next s
  else
    let (c, t) := scrAdvance count (s.scr, 0)
    .next ((s.setScr c).setResult 0 0 t 0)

end Sys2Proof.Machine
end

