-- ==== Sys2Proof/Machine/Mapper.lean ====
section
/-! DEFINITION. The constellation mapper and its commands MAP_ENC, MAP_DEC, TX_SYM and RX_SYM
(41_mapper.md). -/

namespace Sys2Proof.Machine

/-- H, the f32 nearest √2/2 (R170). -/
def fdiag : F32 := 0x3F3504F3

/-- -H (R170). -/
def fdiagNeg : F32 := 0xBF3504F3

/-- -1.0 (R170). -/
def foneNeg : F32 := 0xBF800000

/-- C8, the 8-point constellation (R170). -/
def c8 : List Cplx :=
  [⟨fone, fzero⟩, ⟨fdiag, fdiag⟩, ⟨fzero, fone⟩, ⟨fdiagNeg, fdiag⟩,
   ⟨foneNeg, fzero⟩, ⟨fdiagNeg, fdiagNeg⟩, ⟨fzero, foneNeg⟩, ⟨fdiag, fdiagNeg⟩]

/-- C4, the 4-point constellation (R170). -/
def c4 : List Cplx := [⟨fone, fzero⟩, ⟨fzero, fone⟩, ⟨foneNeg, fzero⟩, ⟨fzero, foneNeg⟩]

/-- `C_N[k]` (R17). -/
def constellation (n k : Nat) : Cplx := (if n = 8 then c8 else c4).getD k czero

/-- G8 (R171). -/
def g8 : List Nat := [0, 1, 3, 2, 7, 6, 4, 5]

/-- G8inv (R171). -/
def g8inv : List Nat := [0, 1, 3, 2, 6, 7, 5, 4]

/-- G4, its own inverse (R172). -/
def g4 : List Nat := [0, 1, 3, 2]

/-- `G_N[t]` (R17). -/
def gray (n t : Nat) : Nat := (if n = 8 then g8 else g4).getD t 0

/-- `Ginv_N[j]` (R17). -/
def grayInv (n j : Nat) : Nat := (if n = 8 then g8inv else g4).getD j 0

/-- The index of `map_encode(d, s)` (R174): the Gray-mapped data position rotated by s. -/
def mapIndex (n d s : Nat) : Nat := (gray n d + s) % n

/-- The state of the candidate search of `map_decode` (R175): the best score so far, none before the first
candidate, and its position. -/
structure DecodeBest where
  score : Option F32
  jbest : Nat
deriving DecidableEq, Repr

/-- One candidate j of `map_decode` (R175): a strictly greater score replaces the best. -/
def decodeCandidate (n : Nat) (p : Cplx) (s : Nat) (b : DecodeBest) (j : Nat) : DecodeBest :=
  let m := reDot p (constellation n ((j + s) % n))
  match b.score with
  | none => ⟨some m, j⟩
  | some best => if fgt m best then ⟨some m, j⟩ else b

/-- The search of `map_decode(p, s)` over the candidates 0 to N-1 in increasing order (R175). -/
def decodeSearch (n : Nat) (p : Cplx) (s : Nat) : DecodeBest :=
  (List.range n).foldl (decodeCandidate n p s) ⟨none, 0⟩

/-- What MAP_DEC and RX_SYM write once the point is valid: RESULT and SOFT (R175, R180, R184). -/
def State.writeDecoded (s : State) (strib : Nat) : State :=
  let b := decodeSearch s.order s.point strib
  { s.setResult (grayInv s.order b.jbest) ((b.jbest + strib) % s.order) strib 0 with
    soft := b.score.getD fzero }

/-- What MAP_ENC and TX_SYM write once D < N: the point and RESULT (R174, R178, R183). -/
def State.writeEncoded (s : State) (d strib : Nat) : State :=
  let idx := mapIndex s.order d strib
  (s.setPoint (constellation s.order idx)).setResult d idx strib 0

/-- MAP_ENC (R178). -/
def execMapEnc (d st : Nat) (s : State) : Result :=
  if s.order ≤ d then raiseError .argRange s
  else .next (s.writeEncoded d st)

/-- MAP_DEC (R180). -/
def execMapDec (st : Nat) (s : State) : Result :=
  if validSample s.point then .next (s.writeDecoded st)
  else raiseError .sampleInvalid s

/-- TX_SYM (R183): the range check comes before the scrambler moves. -/
def execTxSym (d : Nat) (s : State) : Result :=
  if s.order ≤ d then raiseError .argRange s
  else
    let (c, t) := scrNext s.scr
    .next ((s.setScr c).writeEncoded d t)

/-- RX_SYM (R184): the point check comes before the scrambler moves. -/
def execRxSym (s : State) : Result :=
  if validSample s.point then
    let (c, t) := scrNext s.scr
    .next ((s.setScr c).writeDecoded t)
  else raiseError .sampleInvalid s

end Sys2Proof.Machine
end

