-- ==== Sys2Proof/Machine/Layout.lean ====
section
/-! DEFINITION. The frame and mini-frame layout and its command LAYOUT_CLASS (42_layout.md). -/

namespace Sys2Proof.Machine

/-- `layout_class(pos)` is PROBE: the position in its mini-frame lies past the data run (R200). -/
def State.isProbe (s : State) (pos : Nat) : Bool := decide (s.dataRun ≤ pos % s.mfLen)

/-- `probe_strib(pos)` (R202). -/
def probeStrib (pos : Nat) : Nat := scrS pos

/-- `probe_index(pos)` (R202). -/
def probeIndex (n pos : Nat) : Nat := (gray n 0 + probeStrib pos) % n

/-- `expected(pos)` (R204): none for a DATA position, the probe point (R202) for a PROBE one. -/
def State.expected (s : State) (pos : Nat) : Option Cplx :=
  if s.isProbe pos then some (constellation s.order (probeIndex s.order pos)) else none

/-- LAYOUT_CLASS (R203). -/
def execLayoutClass (pos : Nat) (s : State) : Result :=
  if s.sfLen ≤ pos then raiseError .argRange s
  else if s.isProbe pos then
    .next (s.setResult 0 (probeStrib pos % s.order) (probeStrib pos) 1)
  else .next (s.setResult 0 0 0 0)

end Sys2Proof.Machine
end

