-- ==== Sys2Proof/Machine/Correlating.lean ====
section
/-! DEFINITION. The preamble and frame correlator and its commands CORR_RESET, CORR_PUSH and CORR_SWEEP
(44_correlator.md). Every f32 operation stands in the order the rules write it. -/

namespace Sys2Proof.Machine

/-- CORR_RESET (R272). -/
def execCorrReset (s : State) : Result := .next (s.setCorr (corrReset s.corr))

/-- CORR_PUSH (R274). -/
def execCorrPush (s : State) : Result :=
  if validSample s.sample then .next (s.setCorr (corrAppend s.corr s.sample))
  else raiseError .sampleInvalid s

/-- A present template entry: its symbol slot k and its point t_k (R275). -/
structure TemplateEntry where
  k : Nat
  t : Cplx
deriving DecidableEq, Repr

/-- Template slot k (R275): none where its superframe position is DATA, a gap. -/
def State.templateSlot (s : State) (k : Nat) : Option TemplateEntry :=
  (s.expected ((s.tplStart + k) % s.sfLen)).map (fun t => ⟨k, t⟩)

/-- The present entries P_T of the template, in increasing k (R275). -/
def State.template (s : State) : List TemplateEntry := (List.range s.tplLen).filterMap s.templateSlot

/-- The sequential sum, from +0.0, of one component of n window samples from index `from` (R276). -/
def boxcar (part : Cplx → F32) (c : Correlator) (start n : Nat) : F32 :=
  (List.range n).foldl (fun acc i => fadd acc (part (c.winAt (start + i)))) fzero

/-- `r_k(τ)`: the matched filter at template slot k for candidate offset τ (R276). -/
def matched (c : Correlator) (sps tau k : Nat) : Cplx :=
  ⟨boxcar Cplx.i c (tau + k * sps) sps, boxcar Cplx.q c (tau + k * sps) sps⟩

/-- The three running sums of `conf(τ)` (R277). -/
structure CorrSums where
  are : F32
  aim : F32
  er : F32
deriving DecidableEq, Repr

/-- One template entry added to the sums (R277). -/
def addEntry (c : Correlator) (sps tau : Nat) (a : CorrSums) (t : TemplateEntry) : CorrSums :=
  let r := matched c sps tau t.k
  ⟨fadd a.are (reDot r t.t), fadd a.aim (imCross r t.t), fadd a.er (energy r)⟩

/-- et: the template energy (R277). -/
def templateEnergy (ts : List TemplateEntry) : F32 :=
  ts.foldl (fun acc t => fadd acc (energy t.t)) fzero

/-- The last steps of `conf(τ)` from its sums (R277). -/
def confidence (et : F32) (a : CorrSums) : F32 :=
  if feq a.er fzero then fzero
  else
    let c := fsqrt (fdiv (fadd (fmul a.are a.are) (fmul a.aim a.aim)) (fmul a.er et))
    if fgt c fone then fone else c

/-- `conf(τ)` (R277). -/
def conf (c : Correlator) (sps : Nat) (ts : List TemplateEntry) (et : F32) (tau : Nat) : F32 :=
  confidence et (ts.foldl (addEntry c sps tau) ⟨fzero, fzero, fzero⟩)

/-- The best candidate so far of a sweep: its confidence, none before the first, and its offset (R278). -/
structure SweepBest where
  best : Option F32
  tbest : Nat
deriving DecidableEq, Repr

/-- One candidate offset of the sweep (R278, R280): a strictly greater confidence replaces the best. -/
def sweepCandidate (cf : Nat → F32) (b : SweepBest) (tau : Nat) : SweepBest :=
  match b.best with
  | none => ⟨some (cf tau), tau⟩
  | some best => if fgt (cf tau) best then ⟨some (cf tau), tau⟩ else b

/-- The search over the candidate offsets 0 to n-1 (R278, R280). -/
def sweepSearch (cf : Nat → F32) (n : Nat) : SweepBest := (List.range n).foldl (sweepCandidate cf) ⟨none, 0⟩

/-- The samples a sweep needs (R279). -/
def State.sweepNeed (s : State) : Nat := (s.searchLen - 1) + s.tplLen * s.sps

/-- The search CORR_SWEEP performs once its preconditions hold (R278). -/
def State.sweepResult (s : State) : SweepBest :=
  let ts := s.template
  sweepSearch (conf s.corr s.sps ts (templateEnergy ts)) s.searchLen

/-- CORR_SWEEP (R278): TPL_EMPTY before SWEEP_SHORT (R279). -/
def execCorrSweep (s : State) : Result :=
  if s.template.isEmpty then raiseError .tplEmpty s
  else if s.corr.winCount < s.sweepNeed then raiseError .sweepShort s
  else
    let b := s.sweepResult
    let best := b.best.getD fzero
    let acq := fgt best s.corrThresh
    .next ((s.setCorr { s.corr with best := b.tbest, conf := best, acq := acq, sweepValid := true }).raiseEvent
      acq acqEv)

end Sys2Proof.Machine
end

