-- ==== Sys2Proof/Machine/Timing.lean ====
section
/-! DEFINITION. The symbol synchronizer and its commands SYNC_CFG, SYNC_RESET and SYNC_PUSH
(43_synchronizer.md). Every f32 operation stands in the order the rules write it. -/

namespace Sys2Proof.Machine

/-- The loop gains α and β. -/
structure Gains where
  a : F32
  b : F32
deriving DecidableEq, Repr

/-- `gains(z, w)` (R221). -/
def gains (z w : F32) : Gains :=
  let t1 := fmul z w
  let t2 := fmul ftwo t1
  let t3 := fmul w w
  let den := fadd (fadd fone t2) t3
  ⟨fdiv (fmul ffour t1) den, fdiv (fmul ffour t3) den⟩

/-- `valid_cfg(z, w)` (R223). -/
def validCfg (z w : F32) : Bool :=
  positiveFinite z && positiveFinite w && isFinite (gains z w).a && isFinite (gains z w).b

/-- SYNC_CFG (R222): the synchronizer is reset in both outcomes; CFG_INVALID leaves it unconfigured. -/
def execSyncCfg (s : State) : Result :=
  let y := syncReset s.sync
  if validCfg s.zeta s.omega then
    let g := gains s.zeta s.omega
    .next (s.setSync { y with alpha := g.a, beta := g.b, cfgValid := true })
  else
    raiseError .cfgInvalid (s.setSync { y with alpha := fzero, beta := fzero, cfgValid := false })

/-- SYNC_RESET (R226). -/
def execSyncReset (s : State) : Result := .next (s.setSync (syncReset s.sync))

/-- 1.0 or more is replaced by the largest f32 below 1 (R232). -/
def clampBelowOne (a : F32) : F32 := if fge a fone then fbelowOne else a

/-- μ of `strobe_timing(nco, step)` (R231). -/
def strobeMu (nco step : F32) : F32 := clampBelowOne (fdiv nco step)

/-- The wrapped η of `strobe_timing(nco, step)` (R231). -/
def strobeNco (nco step : F32) : F32 := clampBelowOne (fadd (fsub nco step) fone)

/-- `interp_c(mu)` on the history components h0 to h3 (R233). -/
def interpComponent (h0 h1 h2 h3 mu : F32) : F32 :=
  let v2 := fmul fhalf (fadd (fsub (fsub h0 h1) h2) h3)
  let v1 := fsub (fsub (fsub (fmul h1 fonehalf) (fmul h0 fhalf)) (fmul h2 fhalf)) (fmul h3 fhalf)
  fadd (fmul (fadd (fmul v2 mu) v1) mu) h2

/-- `interp(mu)` (R233). -/
def interp (h : History) (mu : F32) : Cplx :=
  ⟨interpComponent h.h0.i h.h1.i h.h2.i h.h3.i mu, interpComponent h.h0.q h.h1.q h.h2.q h.h3.q mu⟩

/-- `midpoint_strobe(y)` (R234). -/
def midpointStrobe (y : Cplx) (st : Synchronizer) : Synchronizer := { st with ymid := y, phase := true }

/-- The Gardner timing error of an on-time strobe y (R235). -/
def timingError (st : Synchronizer) (y : Cplx) : F32 :=
  fadd (fmul st.ymid.i (fsub y.i st.yprev.i)) (fmul st.ymid.q (fsub y.q st.yprev.q))

/-- A value clamped at ±lim, first above and then below, and whether a clamp happened (R236). -/
def clampSym (lim x : F32) : F32 × Bool :=
  let hi := fgt x lim
  let x1 := if hi then lim else x
  let lo := flt x1 (fneg lim)
  (if lo then fneg lim else x1, hi || lo)

/-- `loop_update(e)` (R236), and whether it clamped. -/
def loopUpdate (e : F32) (st : Synchronizer) : Synchronizer × Bool :=
  let lim := fmul fhalf st.w
  let (i, ci) := clampSym lim (fadd st.integ (fmul st.beta e))
  let (v, cv) := clampSym lim (fadd (fmul st.alpha e) i)
  ({ st with integ := i, v := v, diverged := st.diverged || (ci || cv) }, ci || cv)

/-- `emit(y)` (R237). -/
def emit (y : Cplx) (st : Synchronizer) : Synchronizer :=
  { st with yprev := y, phase := false, sym := y, symValid := true, symCount := st.symCount + 1 }

/-- What a push leaves: the synchronizer, and the events SYM_EV and DIV_EV it raises (R410). -/
structure PushOutcome where
  sync : Synchronizer
  emitted : Bool
  clamped : Bool
deriving DecidableEq, Repr

/-- `ontime_strobe(y)` (R235, R236, R237). -/
def ontimeStrobe (y : Cplx) (st : Synchronizer) : PushOutcome :=
  let e := timingError st y
  let (u, clamped) := loopUpdate e { st with e := e }
  ⟨emit y u, true, clamped⟩

/-- The push of a filled history whose NCO underflows (R228): a strobe. -/
def strobe (st : Synchronizer) (step : F32) : PushOutcome :=
  let t := { st with mu := strobeMu st.nco step, nco := strobeNco st.nco step }
  let y := interp t.hist t.mu
  if t.phase then ontimeStrobe y t else ⟨midpointStrobe y t, false, false⟩

/-- The body of SYNC_PUSH on a valid sample (R228): fill (R229), strobe, or decrement of the NCO. -/
def pushSample (st : Synchronizer) (x : Cplx) : PushOutcome :=
  let t := { st with symValid := false, hist := shiftIn st.hist x }
  if t.fill < Config.histLen then ⟨{ t with fill := t.fill + 1 }, false, false⟩
  else
    let step := fadd t.w t.v
    if flt t.nco step then strobe t step
    else ⟨{ t with nco := fsub t.nco step }, false, false⟩

/-- SYNC_PUSH (R228): the configuration is checked before the sample (R404). -/
def execSyncPush (s : State) : Result :=
  if !s.sync.cfgValid then raiseError .notConfigured s
  else if !validSample s.sample then raiseError .sampleInvalid s
  else
    let o := pushSample s.sync s.sample
    .next (((s.setSync o.sync).raiseEvent o.emitted symEv).raiseEvent o.clamped divEv)

end Sys2Proof.Machine
end

