-- ==== Sys2Proof/Machine/Dispatch.lean ====
section
/-! DEFINITION. The meaning of each command: one arm per constructor of Instr. -/

namespace Sys2Proof.Machine

open Sys2Proof

def exec (i : Instr) (s : State) : Host.Outcome State Fault Refusal :=
  match i with
  | .nop => Sys2Proof.Machine.execNop s
  | .softReset => Sys2Proof.Machine.execSoftReset s
  | .scrReset => Sys2Proof.Machine.execScrReset s
  | .scrNext => Sys2Proof.Machine.execScrNext s
  | .scrAdvance count => Sys2Proof.Machine.execScrAdvance count s
  | .mapEnc d st => Sys2Proof.Machine.execMapEnc d st s
  | .mapDec st => Sys2Proof.Machine.execMapDec st s
  | .txSym d => Sys2Proof.Machine.execTxSym d s
  | .rxSym => Sys2Proof.Machine.execRxSym s
  | .layoutClass pos => Sys2Proof.Machine.execLayoutClass pos s
  | .syncCfg => Sys2Proof.Machine.execSyncCfg s
  | .syncReset => Sys2Proof.Machine.execSyncReset s
  | .syncPush => Sys2Proof.Machine.execSyncPush s
  | .corrReset => Sys2Proof.Machine.execCorrReset s
  | .corrPush => Sys2Proof.Machine.execCorrPush s
  | .corrSweep => Sys2Proof.Machine.execCorrSweep s

end Sys2Proof.Machine
end

