-- ==== Sys2Proof/Machine/Complete.lean ====
section
/-! DEFINITION. The completion step of a command (45_control.md R311) and the events of the model's inbox. -/

namespace Sys2Proof.Machine

/-- The command leaves the pending place: BUSY falls at the same step as its effects appear (R19, R311). -/
def State.retire (s : State) : State := { s with pending := none }

/-- `complete()` (R311): the pending word is decoded and its command performed; an illegal word records
ILLEGAL_CMD and performs nothing (R405). With nothing pending the block is idle (R425). -/
def complete (s : State) : Result :=
  match s.pending with
  | none => .next s
  | some w =>
    match decode w with
    | .ok i => exec i s.retire
    | .error _ => raiseError .illegalCmd s.retire

/-- What an event does to the block. -/
def handleEvent (ev : Event) (s : State) : Result :=
  match ev with
  | .read width off => hostRead width off s
  | .write width off v => hostWrite width off v s
  | .complete => complete s
  | .rst => .next s.hardReset

/-- The first event is taken out of the inbox. -/
def State.taken (s : State) : State := { s with inbox := s.inbox.tail }

/-- One step (R21): the next event, or, where the host does nothing more, the completion of the pending
command, which is never put off for ever (R471; log 2). -/
def nextStep (s : State) : Result :=
  match s.inbox with
  | [] => complete s
  | ev :: _ => handleEvent ev s.taken

/-- The state with a command word issued and the scheduler's turn to complete it next: what a host write of
the word to CMD leaves (R311), followed by no host access before completion. -/
def State.withPendingWord (s : State) (w : Word) : State :=
  { s.issue w with inbox := .complete :: s.inbox }

end Sys2Proof.Machine
end

