-- ==== Sys2Proof/Machine/Step.lean ====
section
/-! DEFINITION. One step of the machine, and the placing of an instruction where the next step performs it. -/

namespace Sys2Proof.Machine

/-- One step: one host read, one host write, one command completion, or a reset (R21, R450). -/
def step (s : State) : Host.Outcome State Fault Refusal := nextStep s

/-- s with the instruction whose bits are `w` (the bits above `nbits` being 0) issued as the pending command
and the completion as the next event, so that the next step decodes and performs exactly it. -/
def State.withFetchWord (s : State) (nbits w : Nat) : State :=
  s.withPendingWord (BitVec.ofNat 32 (w % 2 ^ nbits))

end Sys2Proof.Machine
end

