-- ==== Sys2Proof/Safety.lean ====
section
/-! DEFINITION. The terms claims are made in: safe host events, repeated commands, the invariants of the
state, the real value of an f32, and the transmission and reception of whole messages. -/

namespace Sys2Proof.Safety

open Sys2Proof.Machine

/-- The event passes the bus checks: 32 bits wide, aligned, inside the window (R80, R82, R83). -/
def passes : Event → Bool
  | .read width off => decide (width = .w32) && decide (off < 256) && decide (off % 4 = 0)
  | .write width off _ => decide (width = .w32) && decide (off < 256) && decide (off % 4 = 0)
  | .complete => true
  | .rst => true

/-- The event is a host access. -/
def isAccess : Event → Bool
  | .read _ _ => true
  | .write _ _ _ => true
  | .complete => false
  | .rst => false

/-- The same command performed n times. -/
def execTimes (i : Instr) : Nat → State → Result
  | 0, s => .next s
  | n + 1, s =>
    match exec i s with
    | .next t => execTimes i n t
    | .fault r => .fault r
    | .refused r => .refused r

/-- n steps of the machine, ending at the first fault or refusal. -/
def runSteps : Nat → State → Result
  | 0, s => .next s
  | n + 1, s =>
    match step s with
    | .next t => runSteps n t
    | .fault r => .fault r
    | .refused r => .refused r

/-- The scrambler n `next()` operations after SCR_INIT was loaded (R144). -/
def scramblerAfter : Nat → Scrambler
  | 0 => ⟨0xBAD, 0⟩
  | n + 1 => (scrNext (scramblerAfter n)).1

/-- The scrambler is one that `next()` operations reach from SCR_INIT: its position names its register. -/
structure Aligned (c : Scrambler) : Prop where
  pos_lt : c.pos < 160
  reg_eq : c = scramblerAfter c.pos

/-- The configuration registers hold legal values with their reserved bits 0, and W matches SPS. -/
structure ConfigLegal (s : State) : Prop where
  mode_reserved : s.mode &&& 0xFFFF00FE = 0
  sps_range : 4 ≤ s.sps ∧ s.sps ≤ 64
  layout_reserved : s.layout &&& 0xFF000000 = 0
  layout_legal : 1 ≤ s.dataRun + s.probeRun ∧ 1 ≤ s.mfPerSf
  tpl_reserved : s.tpl &&& 0xFE000000 = 0
  tpl_range : 1 ≤ s.tplLen ∧ s.tplLen ≤ 256
  search_reserved : s.search &&& 0xFFFFE000 = 0
  search_range : 1 ≤ s.searchLen ∧ s.searchLen ≤ 4096
  thresh_legal : validThresh s.corrThresh = true
  result_reserved : s.result &&& 0xFFFFE888 = 0
  w_matches : s.sync.w = fdiv ftwo (fofNat s.sps)

/-- Everything the loop computes is as `sync_reset()` leaves it (R225, R229). -/
def LoopUntouched (y : Synchronizer) : Prop :=
  y.nco = 0 ∧ y.mu = 0 ∧ y.e = 0 ∧ y.integ = 0 ∧ y.v = 0 ∧ y.phase = true ∧
  y.ymid = ⟨0, 0⟩ ∧ y.yprev = ⟨0, 0⟩ ∧ y.sym = ⟨0, 0⟩ ∧ y.symValid = false ∧ y.symCount = 0

/-- The units' own invariants: the scrambler's position names its register, the synchronizer's fill and gains
agree with its flags, the window is within its capacity and holds valid samples only. -/
structure UnitsSound (s : State) : Prop where
  aligned : Aligned s.scr
  fill_le : s.sync.fill ≤ 4
  filling_untouched : s.sync.fill < 4 → LoopUntouched s.sync
  unconfigured_gains : s.sync.cfgValid = false → s.sync.alpha = 0 ∧ s.sync.beta = 0
  gains_finite : isFinite s.sync.alpha = true ∧ isFinite s.sync.beta = true
  history_valid : validSample s.sync.hist.h0 = true ∧ validSample s.sync.hist.h1 = true ∧
    validSample s.sync.hist.h2 = true ∧ validSample s.sync.hist.h3 = true
  window_fits : s.corr.win.length ≤ 4096
  window_full_when_slid : s.corr.winBase ≠ 0 → s.corr.win.length = 4096
  window_valid : ∀ x ∈ s.corr.win, validSample x = true
  best_lt : s.corr.best < 4096
  no_sweep_no_result : s.corr.sweepValid = false → s.corr.best = 0 ∧ s.corr.conf = 0 ∧ s.corr.acq = false

/-- The command in flight is the word CMD holds, and ERR and ERR_CODE are set and cleared together. -/
structure ControlSound (s : State) : Prop where
  pending_is_cmd : ∀ w, s.pending = some w → s.cmd = w
  err_has_code : s.err = true ↔ s.errCode ≠ .noError

/-- The component is at most 6 × 65536 in magnitude: the bound of the interpolator (R239). -/
def strobeBounded (z : Cplx) : Bool := fle (fabs z.i) 0x48C00000 && fle (fabs z.q) 0x48C00000

/-- The timing loop's bounds (R239): η and μ in [0,1), the integrator and the loop output within ±W/2, the
timing error below 2^40, everything finite. -/
structure LoopBounded (y : Synchronizer) : Prop where
  nco_unit : isFinite y.nco = true ∧ fge y.nco fzero = true ∧ flt y.nco fone = true
  mu_unit : isFinite y.mu = true ∧ fge y.mu fzero = true ∧ flt y.mu fone = true
  integ_bound : fle (fabs y.integ) (fmul fhalf y.w) = true
  v_bound : fle (fabs y.v) (fmul fhalf y.w) = true
  e_bound : flt (fabs y.e) 0x53800000 = true
  strobes_bound : strobeBounded y.ymid = true ∧ strobeBounded y.yprev = true ∧ strobeBounded y.sym = true

/-- The synchronizer has only seen zeros: its history, strobes, timing error and loop values are +0.0. -/
structure Silent (y : Synchronizer) : Prop where
  hist_zero : y.hist = ⟨⟨0, 0⟩, ⟨0, 0⟩, ⟨0, 0⟩, ⟨0, 0⟩⟩
  strobes_zero : y.ymid = ⟨0, 0⟩ ∧ y.yprev = ⟨0, 0⟩ ∧ y.sym = ⟨0, 0⟩
  loop_zero : y.e = 0 ∧ y.integ = 0 ∧ y.v = 0

/-- The sign bit, bit 31 (R81). -/
def negative (a : F32) : Bool := a.getLsbD 31

/-- The zero with the given sign. -/
def zeroOf (neg : Bool) : F32 := if neg then 0x80000000 else 0x00000000

/-- The infinity with the given sign. -/
def infinityOf (neg : Bool) : F32 := if neg then 0xFF800000 else 0x7F800000

/-- The magnitude of the real number a finite f32 stands for: from the exponent in bits [30:23] and the fraction
in bits [22:0] (R81), subnormals included (R14). -/
noncomputable def magnitude (a : F32) : ℝ :=
  if a.toNat / 2 ^ 23 % 256 = 0 then ((a.toNat % 2 ^ 23 : Nat) : ℝ) / 2 ^ 149
  else ((2 ^ 23 + a.toNat % 2 ^ 23 : Nat) : ℝ) * 2 ^ (a.toNat / 2 ^ 23 % 256) / 2 ^ 150

/-- The real number a finite f32 stands for (R14, R81). -/
noncomputable def value (a : F32) : ℝ := if negative a then -magnitude a else magnitude a

/-- Half a unit in the last place above the largest finite f32: from here on a result rounds to infinity. -/
noncomputable def overflowAt : ℝ := 2 ^ 128 - 2 ^ 103

/-- r is the exact value x rounded to the nearest f32, ties to even; infinity with x's sign past the end. -/
structure RoundedTo (x : ℝ) (r : F32) : Prop where
  finite_inside : |x| < overflowAt → isFinite r = true
  nearest : |x| < overflowAt → ∀ c, isFinite c = true → |value r - x| ≤ |value c - x|
  ties_even : |x| < overflowAt → ∀ c, isFinite c = true → value c ≠ value r → |value c - x| = |value r - x| →
    r.toNat % 2 = 0
  infinite_above : overflowAt ≤ x → r = 0x7F800000
  infinite_below : x ≤ -overflowAt → r = 0xFF800000

/-- TX_SYM for each tribit of a message: the points sent, and the transmitter afterwards; none if a step
stops. -/
def transmit : List Nat → State → Option (List Cplx × State)
  | [], s => some ([], s)
  | d :: ds, s =>
    match exec (.txSym d) s with
    | .next t => (transmit ds t).map (fun p => (t.point :: p.1, p.2))
    | .fault _ => none
    | .refused _ => none

/-- RX_SYM for each point of a message, written to PT_I and PT_Q first: the tribits decoded (RESULT.TRIBIT),
and the receiver afterwards; none if a step stops. -/
def receive : List Cplx → State → Option (List Nat × State)
  | [], s => some ([], s)
  | p :: ps, s =>
    match exec .rxSym { s with ptI := p.i, ptQ := p.q } with
    | .next t => (receive ps t).map (fun q => (bits t.result 2 0 :: q.1, q.2))
    | .fault _ => none
    | .refused _ => none

/-- CORR_PUSH for each sample of a stream, written to SAMP_I and SAMP_Q first; none if a step stops. -/
def pushStream : List Cplx → State → Option State
  | [], s => some s
  | x :: xs, s =>
    match exec .corrPush { s with sampI := x.i, sampQ := x.q } with
    | .next t => pushStream xs t
    | .fault _ => none
    | .refused _ => none

/-- Two states agree on everything but the error record, the events, and the model's own fields. -/
def AgreeButForErrors (s t : State) : Prop :=
  { s with err := t.err, errCode := t.errCode, irqPend := t.irqPend, inbox := t.inbox, replies := t.replies, freeCount := t.freeCount } = t

end Sys2Proof.Safety
end

