-- ==== Sys2Proof/Certificates/Slice0/Obligations.lean ====
section
/-! DEFINITION. The statements for the provers, in the order of the spec's files. Every frame is an equation
`exec i s = .next (s with …)`: what the record update does not name is unchanged. -/

open Sys2Proof Sys2Proof.Machine Sys2Proof.Safety

/-! ### Encoding (30_encoding.md) -/

/-- Decoding the encoding of a well-formed command gives the command back (R112, R114, R116, R121). -/
def Obligations.DecodeOfEncode : Prop :=
  ∀ i : Instr, i.wellFormed = true → decode (encode i) = .ok i

/-- A word that decodes has one meaning: the command is well formed and encodes to that word (R116, R117). -/
def Obligations.EncodeOfDecode : Prop :=
  ∀ (w : Word) (i : Instr), decode w = .ok i → i.wellFormed = true ∧ encode i = w

/-- R121: the 16 rows by match and mask, each with its operands, and no other word decodes. -/
def Obligations.DecodeFollowsOpcodeMap : Prop :=
  ∀ w : Word,
    (w = 0x00000000 → decode w = .ok .nop) ∧
    (w = 0x01000000 → decode w = .ok .softReset) ∧
    (w = 0x10000000 → decode w = .ok .scrReset) ∧
    (w = 0x11000000 → decode w = .ok .scrNext) ∧
    (w &&& 0xFFFF0000 = 0x12000000 → decode w = .ok (.scrAdvance (w.toNat % 65536))) ∧
    (w &&& 0xFFFFFF88 = 0x20000000 → decode w = .ok (.mapEnc (w.toNat % 8) (w.toNat / 16 % 8))) ∧
    (w &&& 0xFFFFFF8F = 0x21000000 → decode w = .ok (.mapDec (w.toNat / 16 % 8))) ∧
    (w &&& 0xFFFFFFF8 = 0x22000000 → decode w = .ok (.txSym (w.toNat % 8))) ∧
    (w = 0x23000000 → decode w = .ok .rxSym) ∧
    (w &&& 0xFFFF0000 = 0x28000000 → decode w = .ok (.layoutClass (w.toNat % 65536))) ∧
    (w = 0x30000000 → decode w = .ok .syncCfg) ∧
    (w = 0x31000000 → decode w = .ok .syncReset) ∧
    (w = 0x32000000 → decode w = .ok .syncPush) ∧
    (w = 0x40000000 → decode w = .ok .corrReset) ∧
    (w = 0x41000000 → decode w = .ok .corrPush) ∧
    (w = 0x42000000 → decode w = .ok .corrSweep) ∧
    (∀ i, decode w = .ok i →
      w ∈ [0x00000000, 0x01000000, 0x10000000, 0x11000000, 0x23000000, 0x30000000, 0x31000000, 0x32000000,
        0x40000000, 0x41000000, 0x42000000] ∨
      w &&& 0xFFFF0000 ∈ [0x12000000, 0x28000000] ∨
      w &&& 0xFFFFFF88 = 0x20000000 ∨ w &&& 0xFFFFFF8F = 0x21000000 ∨ w &&& 0xFFFFFFF8 = 0x22000000)

/-- R117 and R405: an unlisted OP, or a listed one with a must-be-zero bit set, completes as ILLEGAL_CMD and
performs nothing; the word stays in CMD. -/
def Obligations.IllegalWordsRecordIllegalCmd : Prop :=
  ∀ (s : State) (w : Word) (op : Nat),
    op = w.toNat / 2 ^ 24 →
    ((0x02 ≤ op ∧ op ≤ 0x0F) ∨ (0x13 ≤ op ∧ op ≤ 0x1F) ∨ (0x24 ≤ op ∧ op ≤ 0x27) ∨ (0x29 ≤ op ∧ op ≤ 0x2F) ∨
      (0x33 ≤ op ∧ op ≤ 0x3F) ∨ 0x43 ≤ op ∨
      (op ∈ [0x00, 0x01, 0x10, 0x11, 0x23, 0x30, 0x31, 0x32, 0x40, 0x41, 0x42] ∧ w &&& 0x00FFFFFF ≠ 0) ∨
      (op ∈ [0x12, 0x28] ∧ w &&& 0x00FF0000 ≠ 0) ∨ (op = 0x20 ∧ w &&& 0x00FFFF88 ≠ 0) ∨
      (op = 0x21 ∧ w &&& 0x00FFFF8F ≠ 0) ∨ (op = 0x22 ∧ w &&& 0x00FFFFF8 ≠ 0)) →
    s.pending = some w →
    s.inbox.head? = some .complete →
    step s = .next { s with
      pending := none, inbox := s.inbox.tail
      err := true, errCode := .illegalCmd, irqPend := s.irqPend ||| 0b0001 }

/-- Words written out from the encodings of R113 and R119 decode to the commands they stand for. -/
def Obligations.SampleWordsDecode : Prop :=
  decode 0b00010010000000001010010110100101 = .ok (.scrAdvance 42405) ∧
  decode 0b00100000000000000000000001010110 = .ok (.mapEnc 6 5) ∧
  decode 0b00100001000000000000000001100000 = .ok (.mapDec 6) ∧
  decode 0b00100010000000000000000000000101 = .ok (.txSym 5) ∧
  decode 0b00101000000000000000000111011111 = .ok (.layoutClass 479) ∧
  decode 0b00110010000000000000000000000000 = .ok .syncPush ∧
  decode 0b01000010000000000000000000000000 = .ok .corrSweep ∧
  decode 0b00100000000000000000000000001000 = .error .reservedBitSet ∧
  decode 0b11110000000000000000000000000000 = .error .unlistedOp

/-! ### Steps (00_scope.md R19, R21; 45_control.md R311, R323) -/

/-- A step that completes a command is exec of the decoded command, on the state whose pending place is empty
and whose inbox has moved on (R311; the inbox, and the completion where it is empty, are the model's, logs 1
and 2). -/
def Obligations.StepRunsDecodedCommand : Prop :=
  ∀ (s : State) (w : Word) (i : Instr),
    s.pending = some w → decode w = .ok i →
    (s.inbox = [] ∨ s.inbox.head? = some .complete) →
    step s = exec i { s with pending := none, inbox := s.inbox.tail }

/-- R323: a CMD write issues whatever word it carries, an illegal one fails at completion, and one while BUSY
is dropped and not stored. -/
def Obligations.CmdWriteIssues : Prop :=
  ∀ (s : State) (w : Word) (rest : List Event),
    s.inbox = .write .w32 0x04 w :: rest →
    (s.pending = none → step s = .next { s with cmd := w, pending := some w, inbox := rest }) ∧
    (s.pending = none → rest.head? = some .complete → (∀ i, decode w ≠ .ok i) →
      runSteps 2 s = .next { s with
        cmd := w, inbox := rest.tail, err := true, errCode := .illegalCmd, irqPend := s.irqPend ||| 0b0001 }) ∧
    (s.pending ≠ none →
      step s = .next { s with
        inbox := rest, err := true, errCode := .busyAccess, irqPend := s.irqPend ||| 0b0001 })

/-- Every issued command completes after finitely many steps, whatever the host does meanwhile (R20, R471;
that the block completes when no host event is left is the model's scheduler, log 2). -/
def Obligations.EveryIssuedCommandCompletes : Prop :=
  ∀ s : State, s.inbox.all passes = true →
    ∃ (k : Nat) (t : State), k ≤ s.inbox.length + 1 ∧ runSteps k s = .next t ∧ t.pending = none

/-- No command faults or is refused. None writes the configuration, the sample registers, CMD, the pending place,
IRQ_EN or W, or clears ERR, DIVERGED or an event (R55, R400, R403, R410). PT_I and PT_Q are written by MAP_ENC and
TX_SYM only (R43), RESULT by its writers only (R44), SOFT by MAP_DEC and RX_SYM only (R45), CFG_VALID by SYNC_CFG
only, SYM_VALID by the synchronizer's commands and SOFT_RESET only, ACQ and SWEEP_VALID by CORR_SWEEP, CORR_RESET
and SOFT_RESET only (R55, R312). -/
def Obligations.NoCommandStops : Prop :=
  ∀ (i : Instr) (s : State), ∃ t : State,
    exec i s = .next t ∧
    t.cmd = s.cmd ∧ t.pending = s.pending ∧ t.irqEn = s.irqEn ∧ t.mode = s.mode ∧ t.layout = s.layout ∧
    t.tpl = s.tpl ∧ t.search = s.search ∧ t.corrThresh = s.corrThresh ∧ t.zeta = s.zeta ∧ t.omega = s.omega ∧
    t.sampI = s.sampI ∧ t.sampQ = s.sampQ ∧ t.sync.w = s.sync.w ∧
    t.inbox = s.inbox ∧ t.replies = s.replies ∧ t.freeCount = s.freeCount ∧
    s.irqPend &&& t.irqPend = s.irqPend ∧ (s.err = true → t.err = true) ∧
    (s.sync.diverged = true → t.sync.diverged = true) ∧
    (t.ptI ≠ s.ptI ∨ t.ptQ ≠ s.ptQ → (∃ d st, i = .mapEnc d st) ∨ ∃ d, i = .txSym d) ∧
    (t.result ≠ s.result → i = .scrNext ∨ (∃ n, 0 < n ∧ i = .scrAdvance n) ∨ (∃ d st, i = .mapEnc d st) ∨
      (∃ st, i = .mapDec st) ∨ (∃ d, i = .txSym d) ∨ i = .rxSym ∨ ∃ pos, i = .layoutClass pos) ∧
    (t.soft ≠ s.soft → (∃ st, i = .mapDec st) ∨ i = .rxSym) ∧
    (t.sync.cfgValid ≠ s.sync.cfgValid → i = .syncCfg) ∧
    (t.sync.symValid ≠ s.sync.symValid → i ∈ [.softReset, .syncCfg, .syncReset, .syncPush]) ∧
    (t.corr.acq ≠ s.corr.acq ∨ t.corr.sweepValid ≠ s.corr.sweepValid →
      i ∈ [.softReset, .corrReset, .corrSweep])

/-- The only steps that stop are host accesses that fail a bus check (R20, R82, R83, R400; that an access
outside the window is a stop is the model's, log 7). -/
def Obligations.OnlyBusChecksStopAStep : Prop :=
  ∀ s : State,
    (∃ t, step s = .next t) ↔ (∀ ev, s.inbox.head? = some ev → passes ev = true)

/-- What the host does while a command is in flight changes nothing of the command's outcome but the error
record, the events and what the host reads (R462, R465, R466, R470). -/
def Obligations.AccessesWhileBusyDoNotDisturb : Prop :=
  ∀ (s : State) (w : Word) (evs rest : List Event),
    s.pending = some w →
    (∀ ev ∈ evs, isAccess ev = true ∧ passes ev = true) →
    s.inbox = evs ++ .complete :: rest →
    ∃ t u : State,
      runSteps (evs.length + 1) s = .next t ∧ step { s with inbox := .complete :: rest } = .next u ∧
      AgreeButForErrors t u

/-! ### Scrambler (40_scrambler.md) -/

/-- R142: one clock stage by stage, its example, and the period 4095 from every non-zero value (the period is an
inference that R142 marks as its own, by exhaustive evaluation). -/
def Obligations.ScramblerClockIsMaximalLength : Prop :=
  (∀ r : BitVec 12,
    ((scrClock r).getLsbD 0 = r.getLsbD 11) ∧
    ((scrClock r).getLsbD 1 = (r.getLsbD 0 ^^ r.getLsbD 11)) ∧
    ((scrClock r).getLsbD 2 = r.getLsbD 1) ∧
    ((scrClock r).getLsbD 3 = r.getLsbD 2) ∧
    ((scrClock r).getLsbD 4 = (r.getLsbD 3 ^^ r.getLsbD 11)) ∧
    ((scrClock r).getLsbD 5 = r.getLsbD 4) ∧
    ((scrClock r).getLsbD 6 = (r.getLsbD 5 ^^ r.getLsbD 11)) ∧
    (∀ k, 7 ≤ k → k ≤ 11 → (scrClock r).getLsbD k = r.getLsbD (k - 1))) ∧
  scrClock 0xBAD = 0x709 ∧
  (∀ r : BitVec 12, r ≠ 0 → scrClocks 4095 r = r ∧ ∀ n, 0 < n → n < 4095 → scrClocks n r ≠ r)

/-- R143 and R146: SCR_NEXT from any scrambler state: eight clocks, the tribit of stages 2 to 0, the reload at
the 160th operation, RESULT written whole, nothing else changed. -/
def Obligations.ScrNextGeneratesATribit : Prop :=
  decode 0x11000000 = .ok .scrNext ∧
  ∀ s : State, ∃ r : Nat → BitVec 12,
    r 0 = s.scr.reg ∧
    (∀ k, k < 8 →
      r (k + 1) = if (r k).getLsbD 11 then (r k <<< 1) ^^^ 0x053 else r k <<< 1) ∧
    exec .scrNext s = .next { s with
      scr := if s.scr.pos = 159 then ⟨0xBAD, 0⟩ else ⟨r 8, s.scr.pos + 1⟩
      result := BitVec.ofNat 32 (256 * ((r 8).toNat % 8)) }

/-- R144: the next operation with index j since SCR_RESET returns S[j mod 160], for every j (an inference that R144
marks as its own, from R143). -/
def Obligations.ScramblerSequence : Prop :=
  ∀ (s : State) (j : Nat),
    exec .scrReset s = .next { s with scr := ⟨0xBAD, 0⟩ } ∧
    execTimes .scrNext (j + 1) { s with scr := ⟨0xBAD, 0⟩ } = .next { s with
      scr := scramblerAfter ((j + 1) % 160)
      result := BitVec.ofNat 32 (256 * scrS (j % 160)) }

/-- R148: SCR_ADVANCE COUNT is COUNT successive SCR_NEXTs; COUNT = 0 changes nothing, not even RESULT. -/
def Obligations.ScrAdvanceIsRepeatedNext : Prop :=
  ∀ (count : Nat) (s : State),
    (count = 0 → exec (.scrAdvance count) s = .next s) ∧
    (0 < count → ∃ t : State,
      execTimes .scrNext count s = .next t ∧
      exec (.scrAdvance count) s = .next { s with scr := t.scr, result := t.result })

/-- From an aligned scrambler at position p, SCR_ADVANCE COUNT moves to (p + COUNT) mod 160 and returns
S[(p + COUNT - 1) mod 160]; COUNT a multiple of 160 leaves the scrambler as it was (R148, R150). -/
def Obligations.ScrAdvanceFromAlignedPosition : Prop :=
  ∀ (s : State) (count : Nat),
    Aligned s.scr → 0 < count →
    exec (.scrAdvance count) s = .next { s with
      scr := scramblerAfter ((s.scr.pos + count) % 160)
      result := BitVec.ofNat 32 (256 * scrS ((s.scr.pos + count - 1) % 160)) }

/-- The commands that only reset: NOP (R310), SOFT_RESET (R312, R313), SCR_RESET (R141), SYNC_RESET (R226),
CORR_RESET (R271, R272; the model holds no sample of an emptied window, log 6). -/
def Obligations.ResetCommandsComplete : Prop :=
  ∀ s : State,
    exec .nop s = .next s ∧
    exec .scrReset s = .next { s with scr := ⟨0xBAD, 0⟩ } ∧
    exec .syncReset s = .next { s with sync := { s.sync with
      hist := ⟨⟨0, 0⟩, ⟨0, 0⟩, ⟨0, 0⟩, ⟨0, 0⟩⟩, fill := 0, nco := 0, mu := 0, e := 0, integ := 0, v := 0
      phase := true, ymid := ⟨0, 0⟩, yprev := ⟨0, 0⟩, sym := ⟨0, 0⟩, symCount := 0, symValid := false } } ∧
    exec .corrReset s = .next { s with corr := ⟨[], 0, 0, 0, false, false⟩ } ∧
    exec .softReset s = .next { s with
      scr := ⟨0xBAD, 0⟩
      sync := { s.sync with
        hist := ⟨⟨0, 0⟩, ⟨0, 0⟩, ⟨0, 0⟩, ⟨0, 0⟩⟩, fill := 0, nco := 0, mu := 0, e := 0, integ := 0, v := 0
        phase := true, ymid := ⟨0, 0⟩, yprev := ⟨0, 0⟩, sym := ⟨0, 0⟩, symCount := 0, symValid := false }
      corr := ⟨[], 0, 0, 0, false, false⟩ }

/-! ### Mapper (41_mapper.md) -/

/-- R170, R171, R172 and R173: the Gray maps and their inverses entry by entry, each undoing the other, with
adjacent points one bit apart, and the constellations entry by entry with the f32 energies of C8. -/
def Obligations.GrayMapsInvert : Prop :=
  (∀ n, n = 8 ∨ n = 4 →
    (∀ i, i < n → grayInv n (gray n i) = i ∧ gray n i < n) ∧
    (∀ j, j < n → gray n (grayInv n j) = j ∧ grayInv n j < n) ∧
    (∀ j, j < n → grayInv n j = j ^^^ (j >>> 1) ∧
      grayInv n j ^^^ grayInv n ((j + 1) % n) ∈ [1, 2, 4])) ∧
  (List.range 8).map (gray 8) = [0, 1, 3, 2, 7, 6, 4, 5] ∧
  (List.range 8).map (grayInv 8) = [0, 1, 3, 2, 6, 7, 5, 4] ∧
  (List.range 4).map (gray 4) = [0, 1, 3, 2] ∧
  (List.range 4).map (grayInv 4) = [0, 1, 3, 2] ∧
  (List.range 8).map (constellation 8) =
    [⟨0x3F800000, 0x00000000⟩, ⟨0x3F3504F3, 0x3F3504F3⟩, ⟨0x00000000, 0x3F800000⟩, ⟨0xBF3504F3, 0x3F3504F3⟩,
     ⟨0xBF800000, 0x00000000⟩, ⟨0xBF3504F3, 0xBF3504F3⟩, ⟨0x00000000, 0xBF800000⟩, ⟨0x3F3504F3, 0xBF3504F3⟩] ∧
  (List.range 4).map (constellation 4) =
    [⟨0x3F800000, 0x00000000⟩, ⟨0x00000000, 0x3F800000⟩, ⟨0xBF800000, 0x00000000⟩, ⟨0x00000000, 0xBF800000⟩] ∧
  (List.range 8).map (fun k => energy (constellation 8 k)) =
    [0x3F800000, 0x3F7FFFFF, 0x3F800000, 0x3F7FFFFF, 0x3F800000, 0x3F7FFFFF, 0x3F800000, 0x3F7FFFFF]

/-- R178: MAP_ENC writes the point (G_N[D] + S) mod N and RESULT, or fails with ARG_RANGE where D ≥ N. -/
def Obligations.MapEncResult : Prop :=
  ∀ (d st : Nat) (s : State), d ≤ 7 → st ≤ 7 →
    decode (BitVec.ofNat 32 (0x20000000 + st * 16 + d)) = .ok (.mapEnc d st) ∧
    (d < s.order → exec (.mapEnc d st) s = .next { s with
      ptI := (constellation s.order ((gray s.order d + st) % s.order)).i
      ptQ := (constellation s.order ((gray s.order d + st) % s.order)).q
      result := BitVec.ofNat 32 (d + 16 * ((gray s.order d + st) % s.order) + 256 * st) }) ∧
    (s.order ≤ d → exec (.mapEnc d st) s = .next { s with
      err := true, errCode := .argRange, irqPend := s.irqPend ||| 0b0001 })

/-- R175 and R180: MAP_DEC on a valid point chooses the candidate j with the greatest real-part correlation
`score j`, the lowest j on a tie, and writes RESULT and SOFT only. -/
def Obligations.MapDecChoosesBestCandidate : Prop :=
  ∀ (st : Nat) (s : State) (score : Nat → F32), st ≤ 7 → validSample s.point = true →
    (∀ j, score j = fadd (fmul s.ptI (constellation s.order ((j + st) % s.order)).i)
      (fmul s.ptQ (constellation s.order ((j + st) % s.order)).q)) →
    ∃ j, j < s.order ∧
      exec (.mapDec st) s = .next { s with
        result := BitVec.ofNat 32 (grayInv s.order j + 16 * ((j + st) % s.order) + 256 * st)
        soft := score j } ∧
      (∀ k, k < s.order → fgt (score k) (score j) = false) ∧
      (∀ k, k < j → fge (score k) (score j) = false)

/-- R182: MAP_DEC of the point MAP_ENC wrote, with the same S, returns D, and SOFT is the point's energy; the
scrambler is not used. -/
def Obligations.MapRoundTrip : Prop :=
  ∀ (d st : Nat) (s : State), d < s.order → st ≤ 7 →
    ∃ t : State, exec (.mapEnc d st) s = .next t ∧
      exec (.mapDec st) t = .next { t with soft := fadd (fmul t.ptI t.ptI) (fmul t.ptQ t.ptQ) } ∧
      bits t.result 2 0 = d ∧ t.scr = s.scr

/-- R183: TX_SYM takes the next scrambler tribit and maps D with it; where D ≥ N it fails before the scrambler
moves. -/
def Obligations.TxSymResult : Prop :=
  ∀ (d : Nat) (s : State), d ≤ 7 →
    decode (BitVec.ofNat 32 (0x22000000 + d)) = .ok (.txSym d) ∧
    (d < s.order → ∃ (c : Scrambler) (t : Nat), scrNext s.scr = (c, t) ∧ t ≤ 7 ∧
      exec (.txSym d) s = .next { s with
        scr := c
        ptI := (constellation s.order ((gray s.order d + t) % s.order)).i
        ptQ := (constellation s.order ((gray s.order d + t) % s.order)).q
        result := BitVec.ofNat 32 (d + 16 * ((gray s.order d + t) % s.order) + 256 * t) }) ∧
    (s.order ≤ d → exec (.txSym d) s = .next { s with
      err := true, errCode := .argRange, irqPend := s.irqPend ||| 0b0001 })

/-- R184: RX_SYM on a valid point is MAP_DEC with the next scrambler tribit, the scrambler moved by one. -/
def Obligations.RxSymResult : Prop :=
  decode 0x23000000 = .ok .rxSym ∧
  ∀ s : State,
    (validSample s.point = true → ∃ (c : Scrambler) (t : Nat) (u : State),
      scrNext s.scr = (c, t) ∧ t ≤ 7 ∧
      exec .rxSym s = .next u ∧ exec (.mapDec t) { s with scr := c } = .next u ∧
      u = { s with scr := c, result := u.result, soft := u.soft }) ∧
    (validSample s.point = false → exec .rxSym s = .next { s with
      err := true, errCode := .sampleInvalid, irqPend := s.irqPend ||| 0b0001 })

/-- A transmitter and a receiver of the same mode whose scramblers agree recover every message, their scramblers
agree afterwards, and neither end's error record or events change (R145, R183, R184; the document's end-to-end
example for every message). -/
def Obligations.LoopbackRecoversEveryMessage : Prop :=
  ∀ (tx rx : State) (message : List Nat),
    rx.order = tx.order → rx.scr = tx.scr → (∀ d ∈ message, d < tx.order) →
    ∃ (points : List Cplx) (tx' rx' : State),
      transmit message tx = some (points, tx') ∧ receive points rx = some (message, rx') ∧
      rx'.scr = tx'.scr ∧ points.length = message.length ∧
      tx'.err = tx.err ∧ tx'.errCode = tx.errCode ∧ tx'.irqPend = tx.irqPend ∧
      rx'.err = rx.err ∧ rx'.errCode = rx.errCode ∧ rx'.irqPend = rx.irqPend

/-! ### Samples and points (60_exceptions.md R406) -/

/-- R406: a component is valid exactly where its magnitude pattern is at most that of 65536.0, so NaNs,
infinities and greater values are not; each command that takes a sample or a point then records
SAMPLE_INVALID and changes nothing else. -/
def Obligations.InvalidSamplesAreRejected : Prop :=
  (∀ z : Cplx, validSample z = true ↔
    z.i.toNat % 2 ^ 31 ≤ 0x47800000 ∧ z.q.toNat % 2 ^ 31 ≤ 0x47800000) ∧
  ∀ (s : State) (st : Nat),
    (validSample s.point = false →
      exec (.mapDec st) s = .next { s with
        err := true, errCode := .sampleInvalid, irqPend := s.irqPend ||| 0b0001 } ∧
      exec .rxSym s = .next { s with
        err := true, errCode := .sampleInvalid, irqPend := s.irqPend ||| 0b0001 }) ∧
    (validSample s.sample = false →
      exec .corrPush s = .next { s with
        err := true, errCode := .sampleInvalid, irqPend := s.irqPend ||| 0b0001 } ∧
      (s.sync.cfgValid = true → exec .syncPush s = .next { s with
        err := true, errCode := .sampleInvalid, irqPend := s.irqPend ||| 0b0001 }))

/-! ### Layout (42_layout.md) -/

/-- R203: LAYOUT_CLASS classifies the position and, for a PROBE one, returns the table's tribit; the live
scrambler is not read or moved. -/
def Obligations.LayoutClassResult : Prop :=
  ∀ (pos : Nat) (s : State), pos ≤ 65535 →
    decode (BitVec.ofNat 32 (0x28000000 + pos)) = .ok (.layoutClass pos) ∧
    ((s.dataRun + s.probeRun) * s.mfPerSf ≤ pos → exec (.layoutClass pos) s = .next { s with
      err := true, errCode := .argRange, irqPend := s.irqPend ||| 0b0001 }) ∧
    (pos < (s.dataRun + s.probeRun) * s.mfPerSf → pos % (s.dataRun + s.probeRun) < s.dataRun →
      exec (.layoutClass pos) s = .next { s with result := 0 }) ∧
    (pos < (s.dataRun + s.probeRun) * s.mfPerSf → s.dataRun ≤ pos % (s.dataRun + s.probeRun) →
      exec (.layoutClass pos) s = .next { s with
        result := BitVec.ofNat 32
          (16 * (scrS (pos % 160) % s.order) + 256 * scrS (pos % 160) + 4096) })

/-- R200: a superframe holds D × M DATA positions and P × M PROBE positions. -/
def Obligations.SuperframeCounts : Prop :=
  ∀ s : State,
    ((List.range s.sfLen).filter (fun pos => s.isProbe pos)).length = s.probeRun * s.mfPerSf ∧
    ((List.range s.sfLen).filter (fun pos => !s.isProbe pos)).length = s.dataRun * s.mfPerSf

/-- R205: at every superframe position that LAYOUT_CLASS can name, it reports CLASS = 1 exactly where the
correlator's template has an entry, and its INDEX is the index of that entry's point. -/
def Obligations.TemplateAgreesWithLayout : Prop :=
  ∀ (s : State) (k pos : Nat),
    1 ≤ s.sfLen → pos = (s.tplStart + k) % s.sfLen →
    ∃ t : State, exec (.layoutClass pos) s = .next t ∧
      ((s.templateSlot k).isSome = bit t.result 12) ∧
      (∀ e, s.templateSlot k = some e → e.k = k ∧ e.t = constellation s.order (bits t.result 6 4))

/-! ### Synchronizer (43_synchronizer.md) -/

/-- R221, R222 and R223: SYNC_CFG resets the synchronizer and derives the gains in the order of the rule; an
invalid pair leaves it unconfigured with zero gains and records CFG_INVALID. -/
def Obligations.SyncCfgDerivesGains : Prop :=
  decode 0x30000000 = .ok .syncCfg ∧
  ∀ (s : State) (t1 t3 den a b : F32),
    t1 = fmul s.zeta s.omega → t3 = fmul s.omega s.omega →
    den = fadd (fadd 0x3F800000 (fmul 0x40000000 t1)) t3 →
    a = fdiv (fmul 0x40800000 t1) den → b = fdiv (fmul 0x40800000 t3) den →
    ((isFinite s.zeta = true ∧ fgt s.zeta 0 = true ∧ isFinite s.omega = true ∧ fgt s.omega 0 = true ∧
        isFinite a = true ∧ isFinite b = true) →
      exec .syncCfg s = .next { s with sync := { syncReset s.sync with
        alpha := a, beta := b, cfgValid := true } }) ∧
    (¬ (isFinite s.zeta = true ∧ fgt s.zeta 0 = true ∧ isFinite s.omega = true ∧ fgt s.omega 0 = true ∧
        isFinite a = true ∧ isFinite b = true) →
      exec .syncCfg s = .next { s with
        sync := { syncReset s.sync with alpha := 0, beta := 0, cfgValid := false }
        err := true, errCode := .cfgInvalid, irqPend := s.irqPend ||| 0b0001 })

/-- R228 and R229 up to the fourth push: NOT_CONFIGURED before everything else, then the fill: the sample goes
into the history and nothing of the loop moves. -/
def Obligations.SyncPushFillsHistory : Prop :=
  decode 0x32000000 = .ok .syncPush ∧
  ∀ s : State,
    (s.sync.cfgValid = false → exec .syncPush s = .next { s with
      err := true, errCode := .notConfigured, irqPend := s.irqPend ||| 0b0001 }) ∧
    (s.sync.cfgValid = true → validSample s.sample = true → s.sync.fill < 4 →
      exec .syncPush s = .next { s with sync := { s.sync with
        symValid := false, fill := s.sync.fill + 1
        hist := ⟨s.sample, s.sync.hist.h0, s.sync.hist.h1, s.sync.hist.h2⟩ } })

/-- R228, R230, R231, R233 and R234 for a filled history: a push without a strobe only decrements η; a midpoint
strobe forms μ, η and the strobe value y of the interpolator `farrow` (R233's `interp_c`), and emits nothing. -/
def Obligations.SyncPushWithoutSymbol : Prop :=
  ∀ (s : State) (step mu nco : F32) (h : History) (farrow : F32 → F32 → F32 → F32 → F32 → F32) (y : Cplx),
    s.sync.cfgValid = true → validSample s.sample = true → 4 ≤ s.sync.fill →
    step = fadd s.sync.w s.sync.v →
    h = ⟨s.sample, s.sync.hist.h0, s.sync.hist.h1, s.sync.hist.h2⟩ →
    mu = (if fge (fdiv s.sync.nco step) 0x3F800000 then 0x3F7FFFFF else fdiv s.sync.nco step) →
    nco = (if fge (fadd (fsub s.sync.nco step) 0x3F800000) 0x3F800000 then 0x3F7FFFFF
      else fadd (fsub s.sync.nco step) 0x3F800000) →
    (∀ h0 h1 h2 h3 m, farrow h0 h1 h2 h3 m =
      fadd (fmul (fadd
        (fmul (fmul 0x3F000000 (fadd (fsub (fsub h0 h1) h2) h3)) m)
        (fsub (fsub (fsub (fmul h1 0x3FC00000) (fmul h0 0x3F000000)) (fmul h2 0x3F000000)) (fmul h3 0x3F000000)))
        m) h2) →
    y = ⟨farrow h.h0.i h.h1.i h.h2.i h.h3.i mu, farrow h.h0.q h.h1.q h.h2.q h.h3.q mu⟩ →
    (flt s.sync.nco step = false → exec .syncPush s = .next { s with sync := { s.sync with
      symValid := false, hist := h, nco := fsub s.sync.nco step } }) ∧
    (flt s.sync.nco step = true → s.sync.phase = false → exec .syncPush s = .next { s with sync := { s.sync with
      symValid := false, hist := h, mu := mu, nco := nco, ymid := y, phase := true } })

/-- R233, R235, R236 and R237: an on-time strobe interpolates the strobe value y (`farrow` is R233's `interp_c`),
computes the Gardner error from the stored strobes, runs the loop filter with its clamps at ±W/2, and emits the
symbol; SYM_EV is raised, and DIV_EV and DIVERGED exactly on a clamp. -/
def Obligations.SyncPushEmitsSymbol : Prop :=
  ∀ (s : State) (step mu nco e lim neg i0 i1 i v0 v1 v : F32) (h : History)
    (farrow : F32 → F32 → F32 → F32 → F32 → F32) (y : Cplx) (clamp : Bool),
    s.sync.cfgValid = true → validSample s.sample = true → 4 ≤ s.sync.fill →
    step = fadd s.sync.w s.sync.v → flt s.sync.nco step = true → s.sync.phase = true →
    h = ⟨s.sample, s.sync.hist.h0, s.sync.hist.h1, s.sync.hist.h2⟩ →
    mu = (if fge (fdiv s.sync.nco step) 0x3F800000 then 0x3F7FFFFF else fdiv s.sync.nco step) →
    nco = (if fge (fadd (fsub s.sync.nco step) 0x3F800000) 0x3F800000 then 0x3F7FFFFF
      else fadd (fsub s.sync.nco step) 0x3F800000) →
    (∀ h0 h1 h2 h3 m, farrow h0 h1 h2 h3 m =
      fadd (fmul (fadd
        (fmul (fmul 0x3F000000 (fadd (fsub (fsub h0 h1) h2) h3)) m)
        (fsub (fsub (fsub (fmul h1 0x3FC00000) (fmul h0 0x3F000000)) (fmul h2 0x3F000000)) (fmul h3 0x3F000000)))
        m) h2) →
    y = ⟨farrow h.h0.i h.h1.i h.h2.i h.h3.i mu, farrow h.h0.q h.h1.q h.h2.q h.h3.q mu⟩ →
    e = fadd (fmul s.sync.ymid.i (fsub y.i s.sync.yprev.i)) (fmul s.sync.ymid.q (fsub y.q s.sync.yprev.q)) →
    lim = fmul 0x3F000000 s.sync.w → neg = lim ^^^ 0x80000000 →
    i0 = fadd s.sync.integ (fmul s.sync.beta e) →
    i1 = (if fgt i0 lim then lim else i0) → i = (if flt i1 neg then neg else i1) →
    v0 = fadd (fmul s.sync.alpha e) i →
    v1 = (if fgt v0 lim then lim else v0) → v = (if flt v1 neg then neg else v1) →
    clamp = (fgt i0 lim || flt i1 neg || fgt v0 lim || flt v1 neg) →
    exec .syncPush s = .next { s with
      irqPend := s.irqPend ||| 0b0010 ||| (if clamp then 0b1000 else 0)
      sync := { s.sync with
        hist := h, mu := mu, nco := nco, e := e, integ := i, v := v
        yprev := y, phase := false, sym := y, symValid := true, symCount := s.sync.symCount + 1
        diverged := s.sync.diverged || clamp } }

/-- R233 in f32: at μ = +0.0 the interpolator returns the basepoint sample exactly, for valid samples with a
non-zero basepoint. -/
def Obligations.InterpolatorAtZero : Prop :=
  ∀ h0 h1 h2 h3 : F32,
    validComponent h0 = true → validComponent h1 = true → validComponent h2 = true → validComponent h3 = true →
    h2.toNat % 2 ^ 31 ≠ 0 →
    interpComponent h0 h1 h2 h3 0 = h2

/-- R239: the timing loop stays within its bounds at every step of the machine. -/
def Obligations.TimingLoopStaysBounded : Prop :=
  ∀ s t : State,
    ConfigLegal s → UnitsSound s → LoopBounded s.sync → step s = .next t → LoopBounded t.sync

/-- Silence keeps the loop still (R228): a push of a zero sample into a silent, bounded loop leaves it silent
and neither clamps nor sets DIVERGED. -/
def Obligations.SilenceKeepsTheLoopStill : Prop :=
  ∀ s : State,
    ConfigLegal s → UnitsSound s → LoopBounded s.sync → Silent s.sync →
    s.sync.cfgValid = true → s.sampI = 0 → s.sampQ = 0 →
    ∃ t : State, exec .syncPush s = .next t ∧ Silent t.sync ∧ t.sync.diverged = s.sync.diverged ∧
      t.irqPend &&& 0b1101 = s.irqPend &&& 0b1101

/-! ### Correlator (44_correlator.md) -/

/-- R273 and R274: CORR_PUSH appends a valid sample, or slides a full window by one and counts it (that the window
is the list of its held samples is the model's, log 6). -/
def Obligations.CorrPushAppendsOrSlides : Prop :=
  decode 0x41000000 = .ok .corrPush ∧
  ∀ s : State, validSample s.sample = true →
    (s.corr.win.length < 4096 → exec .corrPush s = .next { s with corr := { s.corr with
      win := s.corr.win ++ [s.sample] } }) ∧
    (4096 ≤ s.corr.win.length → exec .corrPush s = .next { s with corr := { s.corr with
      win := s.corr.win.drop 1 ++ [s.sample], winBase := s.corr.winBase + 1 } })

/-- A window holds the newest 4096 samples of its stream, and WIN_BASE counts the rest modulo 2^32 (R51, R273; the
window as the list of its held samples is the model's, log 6). -/
def Obligations.WindowHoldsNewestSamples : Prop :=
  ∀ (s : State) (stream : List Cplx),
    s.corr.win = [] → s.corr.winBase = 0 → (∀ x ∈ stream, validSample x = true) →
    ∃ t : State, pushStream stream s = some t ∧
      t.corr.win = stream.drop (stream.length - 4096) ∧
      t.corr.winBase = BitVec.ofNat 32 (stream.length - 4096) ∧
      t.sync = s.sync ∧ t.scr = s.scr ∧ t.err = s.err

/-- R279: TPL_EMPTY exactly where the span holds no PROBE position, checked before SWEEP_SHORT, which is where
the window holds fewer than (SEARCH_LEN - 1) + L·SPS samples; either leaves the last result. -/
def Obligations.SweepPreconditions : Prop :=
  decode 0x42000000 = .ok .corrSweep ∧
  ∀ s : State, 1 ≤ s.searchLen →
    ((∀ k, k < s.tplLen → s.isProbe ((s.tplStart + k) % s.sfLen) = false) →
      exec .corrSweep s = .next { s with
        err := true, errCode := .tplEmpty, irqPend := s.irqPend ||| 0b0001 }) ∧
    ((∃ k, k < s.tplLen ∧ s.isProbe ((s.tplStart + k) % s.sfLen) = true) →
      s.corr.win.length < (s.searchLen - 1) + s.tplLen * s.sps →
      exec .corrSweep s = .next { s with
        err := true, errCode := .sweepShort, irqPend := s.irqPend ||| 0b0001 })

/-- R275 to R278, R280 and R281: a sweep that passes its checks reports the first offset of greatest confidence,
that confidence, and ACQ exactly where it strictly exceeds the threshold; ACQ_EV with ACQ; nothing else changes.
The confidence is spelled out: the positions and points of the template (R275), the present entries P_T, the
matched filter r (R276), the four sums, and `conf(τ)` of them (R277). -/
def Obligations.SweepReportsFirstPeak : Prop :=
  ∀ (s : State) (pos : Nat → Nat) (present : List Nat) (point : Nat → Cplx) (r : Nat → Nat → Cplx)
    (et : F32) (are aim er c cf : Nat → F32),
    (∀ k, pos k = (s.tplStart + k) % s.sfLen) →
    present = (List.range s.tplLen).filter (fun k => decide (s.dataRun ≤ pos k % (s.dataRun + s.probeRun))) →
    (∀ k, point k = constellation s.order (scrS (pos k % 160) % s.order)) →
    (∀ τ k, r τ k =
      ⟨(List.range s.sps).foldl (fun acc i => fadd acc (s.corr.win.getD (τ + k * s.sps + i) ⟨0, 0⟩).i) 0,
       (List.range s.sps).foldl (fun acc i => fadd acc (s.corr.win.getD (τ + k * s.sps + i) ⟨0, 0⟩).q) 0⟩) →
    et = present.foldl (fun acc k =>
      fadd acc (fadd (fmul (point k).i (point k).i) (fmul (point k).q (point k).q))) 0 →
    (∀ τ, are τ = present.foldl (fun acc k =>
      fadd acc (fadd (fmul (r τ k).i (point k).i) (fmul (r τ k).q (point k).q))) 0) →
    (∀ τ, aim τ = present.foldl (fun acc k =>
      fadd acc (fsub (fmul (r τ k).q (point k).i) (fmul (r τ k).i (point k).q))) 0) →
    (∀ τ, er τ = present.foldl (fun acc k =>
      fadd acc (fadd (fmul (r τ k).i (r τ k).i) (fmul (r τ k).q (r τ k).q))) 0) →
    (∀ τ, c τ = fsqrt (fdiv (fadd (fmul (are τ) (are τ)) (fmul (aim τ) (aim τ))) (fmul (er τ) et))) →
    (∀ τ, cf τ = if feq (er τ) 0 then 0 else if fgt (c τ) 0x3F800000 then 0x3F800000 else c τ) →
    1 ≤ s.searchLen →
    present ≠ [] →
    (s.searchLen - 1) + s.tplLen * s.sps ≤ s.corr.win.length →
    ∃ tau, tau < s.searchLen ∧
      exec .corrSweep s = .next { s with
        irqPend := s.irqPend ||| (if fgt (cf tau) s.corrThresh then 0b0100 else 0)
        corr := { s.corr with
          best := tau, conf := cf tau, acq := fgt (cf tau) s.corrThresh, sweepValid := true } } ∧
      (∀ k, k < s.searchLen → fgt (cf k) (cf tau) = false) ∧
      (∀ k, k < tau → fge (cf k) (cf tau) = false)

/-- R277: for a window of valid samples the confidence is a number in [0, 1], never a NaN. -/
def Obligations.ConfidenceInUnitInterval : Prop :=
  ∀ (s : State) (tau : Nat),
    ConfigLegal s → (∀ x ∈ s.corr.win, validSample x = true) →
    let c := conf s.corr s.sps s.template (templateEnergy s.template) tau
    isFinite c = true ∧ signBit c = false ∧ fge c fzero = true ∧ fle c fone = true

/-- Silence is not acquired (R277, R284, R285): a window of zeros gives offset 0, confidence +0.0, ACQ = 0, no
error and no event, for every length and every search range it satisfies. -/
def Obligations.SilentWindowIsNotAcquired : Prop :=
  ∀ s : State,
    1 ≤ s.searchLen → validThresh s.corrThresh = true → (∀ x ∈ s.corr.win, x = ⟨0, 0⟩) →
    (∃ k, k < s.tplLen ∧ s.isProbe ((s.tplStart + k) % s.sfLen) = true) →
    (s.searchLen - 1) + s.tplLen * s.sps ≤ s.corr.win.length →
    exec .corrSweep s = .next { s with corr := { s.corr with
      best := 0, conf := 0, acq := false, sweepValid := true } }

/-! ### The register window (10_state.md, 20_memory.md, 45_control.md, 70_reset_and_hazards.md) -/

/-- R465: every host write while BUSY is dropped with BUSY_ACCESS, whatever its offset; the pending command is
unaffected. -/
def Obligations.WriteWhileBusyIsDropped : Prop :=
  ∀ (s : State) (off : Nat) (v w : Word) (rest : List Event),
    s.pending = some w → off < 256 → off % 4 = 0 →
    s.inbox = .write .w32 off v :: rest →
    step s = .next { s with
      inbox := rest, err := true, errCode := .busyAccess, irqPend := s.irqPend ||| 0b0001 }

/-- Reads (R86, R324, R466): the host receives the slot's value; while BUSY an offset other than STATUS gives
a free value instead (log 4). The block itself does not change. -/
def Obligations.ReadsHaveNoSideEffect : Prop :=
  ∀ (s : State) (off : Nat) (rest : List Event),
    off < 256 → off % 4 = 0 → s.inbox = .read .w32 off :: rest →
    ((s.pending = none ∨ off = 0x08) →
      step s = .next { s with inbox := rest, replies := readSlot off s :: s.replies }) ∧
    (s.pending ≠ none → off ≠ 0x08 →
      step s = .next { s with
        inbox := rest, replies := Config.freeRead s.freeCount :: s.replies, freeCount := s.freeCount + 1 })

/-- STATUS bit by bit (R34, R324), and the number of each error code (R401). -/
def Obligations.StatusBits : Prop :=
  (∀ s : State,
    let v := readSlot 0x08 s
    v.getLsbD 0 = s.pending.isSome ∧ v.getLsbD 1 = s.err ∧ v.getLsbD 2 = s.sync.diverged ∧
    v.getLsbD 3 = s.sync.cfgValid ∧ v.getLsbD 4 = s.sync.symValid ∧ v.getLsbD 5 = s.corr.acq ∧
    v.getLsbD 6 = s.corr.sweepValid ∧ v.getLsbD 7 = false ∧
    v.toNat / 2 ^ 8 = errorNumber s.errCode ∧ errorNumber s.errCode ≤ 9) ∧
  errorNumber .noError = 0 ∧ errorNumber .illegalCmd = 1 ∧ errorNumber .argRange = 2 ∧
  errorNumber .sampleInvalid = 3 ∧ errorNumber .cfgInvalid = 4 ∧ errorNumber .notConfigured = 5 ∧
  errorNumber .modeInvalid = 6 ∧ errorNumber .sweepShort = 7 ∧ errorNumber .tplEmpty = 8 ∧
  errorNumber .busyAccess = 9

/-- What each offset of the window reads (R31 to R52, R324). First the registers that are one field, from CMD at
0x04 to WIN_BASE at 0x84; then the packed registers field by field (R46, R47, R50, R51), in every state whose
counts fit their fields. STATUS is the statement StatusBits. Last, what the commands take from a register: N, SPS,
D, P, M, MF_LEN, SF_LEN, TPL_START, L and SEARCH_LEN as bits of MODE, LAYOUT, TPL and SEARCH (R35 to R38, R54), the
sample and the point as their two registers (R42, R43), and the byte lanes of a word (R81). -/
def Obligations.PackedRegisters : Prop :=
  (∀ s : State,
    readSlot 0x00 s = 0x4D313130 ∧ readSlot 0x04 s = s.cmd ∧
    (readSlot 0x0C s).toNat = s.irqEn.toNat ∧ (readSlot 0x10 s).toNat = s.irqPend.toNat ∧
    readSlot 0x14 s = s.mode ∧ readSlot 0x18 s = s.layout ∧ readSlot 0x1C s = s.tpl ∧
    readSlot 0x20 s = s.search ∧ readSlot 0x24 s = s.corrThresh ∧
    readSlot 0x28 s = s.zeta ∧ readSlot 0x2C s = s.omega ∧
    readSlot 0x30 s = s.sync.alpha ∧ readSlot 0x34 s = s.sync.beta ∧
    readSlot 0x38 s = s.sampI ∧ readSlot 0x3C s = s.sampQ ∧
    readSlot 0x40 s = s.ptI ∧ readSlot 0x44 s = s.ptQ ∧
    readSlot 0x48 s = s.result ∧ readSlot 0x4C s = s.soft ∧
    readSlot 0x58 s = s.sync.mu ∧ readSlot 0x5C s = s.sync.e ∧ readSlot 0x60 s = s.sync.integ ∧
    readSlot 0x64 s = s.sync.nco ∧ readSlot 0x68 s = s.sync.v ∧ readSlot 0x6C s = s.sync.w ∧
    readSlot 0x70 s = s.sync.sym.i ∧ readSlot 0x74 s = s.sync.sym.q ∧
    readSlot 0x7C s = s.corr.conf ∧ readSlot 0x84 s = s.corr.winBase) ∧
  (∀ s : State,
    s.scr.pos < 256 → s.sync.fill < 8 → s.corr.best < 4096 → s.corr.win.length < 8192 →
    (readSlot 0x50 s).toNat = s.scr.reg.toNat + 2 ^ 16 * s.scr.pos ∧
    (readSlot 0x54 s).toNat =
      s.sync.fill + (if s.sync.phase then 8 else 0) + 2 ^ 16 * s.sync.symCount.toNat ∧
    (readSlot 0x78 s).toNat = s.corr.best ∧ (readSlot 0x80 s).toNat = s.corr.win.length) ∧
  (∀ s : State,
    s.order = (if s.mode.getLsbD 0 then 4 else 8) ∧ s.sps = (s.mode.extractLsb 15 8).toNat ∧
    s.dataRun = (s.layout.extractLsb 7 0).toNat ∧ s.probeRun = (s.layout.extractLsb 15 8).toNat ∧
    s.mfPerSf = (s.layout.extractLsb 23 16).toNat ∧
    s.mfLen = s.dataRun + s.probeRun ∧ s.sfLen = (s.dataRun + s.probeRun) * s.mfPerSf ∧
    s.tplStart = (s.tpl.extractLsb 15 0).toNat ∧ s.tplLen = (s.tpl.extractLsb 24 16).toNat ∧
    s.searchLen = (s.search.extractLsb 12 0).toNat ∧
    s.sample = ⟨s.sampI, s.sampQ⟩ ∧ s.point = ⟨s.ptI, s.ptQ⟩) ∧
  ∀ v : Word,
    lane v 0 = v.extractLsb 7 0 ∧ lane v 1 = v.extractLsb 15 8 ∧ lane v 2 = v.extractLsb 23 16 ∧
    lane v 3 = v.extractLsb 31 24

/-- R315: the STATUS write clears ERR and ERR_CODE by bit 1, DIVERGED by bit 2, and ignores the rest. -/
def Obligations.StatusWriteOneToClear : Prop :=
  ∀ (s : State) (v : Word) (rest : List Event),
    s.pending = none → s.inbox = .write .w32 0x08 v :: rest →
    step s = .next { s with
      inbox := rest
      err := s.err && !v.getLsbD 1
      errCode := if v.getLsbD 1 then .noError else s.errCode
      sync := { s.sync with diverged := s.sync.diverged && !v.getLsbD 2 } }

/-- R316, R317 and R411: the IRQ_PEND and IRQ_EN writes, and irq as the OR of the enabled pending bits. -/
def Obligations.InterruptRegisters : Prop :=
  (∀ (s : State) (v : Word) (rest : List Event), s.pending = none →
    (s.inbox = .write .w32 0x10 v :: rest →
      step s = .next { s with inbox := rest, irqPend := s.irqPend &&& ~~~(v.setWidth 4) }) ∧
    (s.inbox = .write .w32 0x0C v :: rest →
      step s = .next { s with inbox := rest, irqEn := v.setWidth 4 })) ∧
  (∀ s : State, s.irq = true ↔ ∃ b, b < 4 ∧ s.irqPend.getLsbD b = true ∧ s.irqEn.getLsbD b = true)

/-- R318: a legal MODE or LAYOUT write is a mode change, with unit reset and W = 2/SPS; an illegal one records
MODE_INVALID and changes nothing else (that the emptied window holds no sample is the model's, log 6; R271 leaves
the contents). -/
def Obligations.ModeChange : Prop :=
  ∀ (s : State) (v : Word) (rest : List Event), s.pending = none →
    (s.inbox = .write .w32 0x14 v :: rest →
      (4 ≤ v.toNat / 2 ^ 8 % 256 ∧ v.toNat / 2 ^ 8 % 256 ≤ 64 →
        step s = .next { s with
          inbox := rest, mode := v &&& 0x0000FF01, scr := ⟨0xBAD, 0⟩, corr := ⟨[], 0, 0, 0, false, false⟩
          sync := { syncReset s.sync with w := fdiv 0x40000000 (fofNat (v.toNat / 2 ^ 8 % 256)) } }) ∧
      (v.toNat / 2 ^ 8 % 256 < 4 ∨ 64 < v.toNat / 2 ^ 8 % 256 →
        step s = .next { s with
          inbox := rest, err := true, errCode := .modeInvalid, irqPend := s.irqPend ||| 0b0001 })) ∧
    (s.inbox = .write .w32 0x18 v :: rest →
      (1 ≤ v.toNat % 256 + v.toNat / 2 ^ 8 % 256 ∧ 1 ≤ v.toNat / 2 ^ 16 % 256 →
        step s = .next { s with
          inbox := rest, layout := v &&& 0x00FFFFFF, scr := ⟨0xBAD, 0⟩, corr := ⟨[], 0, 0, 0, false, false⟩
          sync := { syncReset s.sync with w := fdiv 0x40000000 (fofNat s.sps) } }) ∧
      (v.toNat % 256 + v.toNat / 2 ^ 8 % 256 < 1 ∨ v.toNat / 2 ^ 16 % 256 < 1 →
        step s = .next { s with
          inbox := rest, err := true, errCode := .modeInvalid, irqPend := s.irqPend ||| 0b0001 }))

/-- R319, R320 and R321: the TPL, SEARCH and CORR_THRESH writes store a legal value masked or bit-exact, and
record ARG_RANGE for another; a legal threshold is +0.0 to 1.0 by its pattern, or -0.0. -/
def Obligations.ValidatedWrites : Prop :=
  ∀ (s : State) (v : Word) (rest : List Event), s.pending = none →
    (s.inbox = .write .w32 0x1C v :: rest →
      (1 ≤ v.toNat / 2 ^ 16 % 512 ∧ v.toNat / 2 ^ 16 % 512 ≤ 256 →
        step s = .next { s with inbox := rest, tpl := v &&& 0x01FFFFFF }) ∧
      (v.toNat / 2 ^ 16 % 512 < 1 ∨ 256 < v.toNat / 2 ^ 16 % 512 →
        step s = .next { s with
          inbox := rest, err := true, errCode := .argRange, irqPend := s.irqPend ||| 0b0001 })) ∧
    (s.inbox = .write .w32 0x20 v :: rest →
      (1 ≤ v.toNat % 8192 ∧ v.toNat % 8192 ≤ 4096 →
        step s = .next { s with inbox := rest, search := v &&& 0x00001FFF }) ∧
      (v.toNat % 8192 < 1 ∨ 4096 < v.toNat % 8192 →
        step s = .next { s with
          inbox := rest, err := true, errCode := .argRange, irqPend := s.irqPend ||| 0b0001 })) ∧
    (s.inbox = .write .w32 0x24 v :: rest →
      (v.toNat ≤ 0x3F800000 ∨ v = 0x80000000 → step s = .next { s with inbox := rest, corrThresh := v }) ∧
      (0x3F800000 < v.toNat ∧ v ≠ 0x80000000 →
        step s = .next { s with
          inbox := rest, err := true, errCode := .argRange, irqPend := s.irqPend ||| 0b0001 }))

/-- R322 and R84: ZETA, OMEGA, SAMP_I, SAMP_Q, PT_I and PT_Q store any pattern unchanged; a write to a
read-only register or a reserved offset is ignored without error, and a reserved offset reads as 0. -/
def Obligations.PlainAndIgnoredWrites : Prop :=
  (∀ (s : State) (off : Nat) (v : Word) (rest : List Event), s.pending = none →
    s.inbox = .write .w32 off v :: rest →
    (off = 0x28 → step s = .next { s with inbox := rest, zeta := v }) ∧
    (off = 0x2C → step s = .next { s with inbox := rest, omega := v }) ∧
    (off = 0x38 → step s = .next { s with inbox := rest, sampI := v }) ∧
    (off = 0x3C → step s = .next { s with inbox := rest, sampQ := v }) ∧
    (off = 0x40 → step s = .next { s with inbox := rest, ptI := v }) ∧
    (off = 0x44 → step s = .next { s with inbox := rest, ptQ := v }) ∧
    (off % 4 = 0 → off < 256 → (off = 0x00 ∨ off = 0x30 ∨ off = 0x34 ∨ 0x48 ≤ off) →
      step s = .next { s with inbox := rest })) ∧
  (∀ (s : State) (off : Nat), 0x88 ≤ off → off < 256 → off % 4 = 0 → readSlot off s = 0) ∧
  (∀ s : State, readSlot 0x00 s = 0x4D313130)

/-- R82 and R83: an access that is not 32 bits wide is refused as BUS_WIDTH, a 32-bit one at an offset that is
no multiple of 4 as BUS_ALIGN. (That the width is checked first is the model's, log 7.) -/
def Obligations.BusRefusals : Prop :=
  ∀ (s : State) (width : AccessWidth) (off : Nat) (v : Word) (rest : List Event),
    off < 256 → (s.inbox = .read width off :: rest ∨ s.inbox = .write width off v :: rest) →
    (width ≠ .w32 → step s = .refused .busWidth) ∧
    (width = .w32 → off % 4 ≠ 0 → step s = .refused .busAlign)

/-- R55, R414: ERR, DIVERGED and the pending events are cleared only by their write-1-to-clear writes or by
`rst`, in every step of the machine. -/
def Obligations.FlagsClearedOnlyByHost : Prop :=
  ∀ s t : State, step s = .next t →
    (s.err = true → t.err = false → s.inbox.head? = some .rst ∨
      ∃ v : Word, s.inbox.head? = some (.write .w32 0x08 v) ∧ v.getLsbD 1 = true ∧ s.pending = none) ∧
    (s.sync.diverged = true → t.sync.diverged = false → s.inbox.head? = some .rst ∨
      ∃ v : Word, s.inbox.head? = some (.write .w32 0x08 v) ∧ v.getLsbD 2 = true ∧ s.pending = none) ∧
    (∀ b, s.irqPend.getLsbD b = true → t.irqPend.getLsbD b = false → s.inbox.head? = some .rst ∨
      ∃ v : Word, s.inbox.head? = some (.write .w32 0x10 v) ∧ v.getLsbD b = true ∧ s.pending = none)

/-- R55, R224: CFG_VALID, ALPHA and BETA change only in a step that completes SYNC_CFG, or at `rst` (which
steps complete a command is the model's, log 2). -/
def Obligations.GainsChangedOnlyBySyncCfg : Prop :=
  ∀ s t : State, step s = .next t →
    (t.sync.cfgValid ≠ s.sync.cfgValid ∨ t.sync.alpha ≠ s.sync.alpha ∨ t.sync.beta ≠ s.sync.beta) →
    s.inbox.head? = some .rst ∨
      (s.pending = some 0x30000000 ∧ (s.inbox = [] ∨ s.inbox.head? = some .complete))

/-! ### Reset and invariants (70_reset_and_hazards.md) -/

/-- R450 and R32: after `rst` every register reads its reset value, reserved offsets 0, nothing is pending and
irq is low, whatever the state was (that `rst` is one step is the model's, log 9). -/
def Obligations.HardResetValues : Prop :=
  ∀ (s : State) (rest : List Event), s.inbox = .rst :: rest →
    ∃ t : State, step s = .next t ∧ t.pending = none ∧ t.irq = false ∧ t.inbox = rest ∧
      readSlot 0x00 t = 0x4D313130 ∧ readSlot 0x04 t = 0 ∧ readSlot 0x08 t = 0 ∧ readSlot 0x0C t = 0 ∧
      readSlot 0x10 t = 0 ∧ readSlot 0x14 t = 0x00000400 ∧ readSlot 0x18 t = 0x000A1020 ∧
      readSlot 0x1C t = 0x00100020 ∧ readSlot 0x20 t = 0x00000001 ∧ readSlot 0x24 t = 0x3F000000 ∧
      readSlot 0x50 t = 0x00000BAD ∧ readSlot 0x54 t = 0x00000008 ∧ readSlot 0x6C t = 0x3F000000 ∧
      (∀ off, off < 256 → off % 4 = 0 →
        off ∉ [0x00, 0x14, 0x18, 0x1C, 0x20, 0x24, 0x50, 0x54, 0x6C] → readSlot off t = 0) ∧
      t.sync.hist = ⟨⟨0, 0⟩, ⟨0, 0⟩, ⟨0, 0⟩, ⟨0, 0⟩⟩ ∧ t.sync.ymid = ⟨0, 0⟩ ∧ t.sync.yprev = ⟨0, 0⟩

/-- The reset state has every invariant (R450). -/
def Obligations.InvariantsAtReset : Prop :=
  ConfigLegal State.reset ∧ UnitsSound State.reset ∧ ControlSound State.reset ∧ LoopBounded State.reset.sync

/-- Every step keeps the configuration legal, its reserved bits 0, RESULT's reserved bits 0, and W = 2/SPS
(R35 to R39, R44, R48, R201). -/
def Obligations.StepKeepsConfigLegal : Prop :=
  ∀ s t : State, ConfigLegal s → step s = .next t → ConfigLegal t

/-- Every step keeps the units sound: the scrambler aligned with its position, FILL and the gains agreeing
with their flags, the window within 4096 valid samples and full once it has slid (R46, R47, R51, R53, R224,
R229, R283). -/
def Obligations.StepKeepsUnitsSound : Prop :=
  ∀ s t : State, ConfigLegal s → UnitsSound s → step s = .next t → UnitsSound t

/-- Every step keeps the command in flight equal to CMD, and ERR and ERR_CODE set and cleared together (R33,
R402, R465). -/
def Obligations.StepKeepsControlSound : Prop :=
  ∀ s t : State, ControlSound s → step s = .next t → ControlSound t

/-! ### f32 arithmetic (00_scope.md R14) -/

/-- The sum, difference and product of finite numbers are the exact results rounded to nearest, ties to even;
comparisons order the numbers, with -0.0 equal to +0.0, and are false on a NaN; a number is finite, or a NaN, by its
exponent and fraction bits (R81). The signs of zero results, the operations on infinities, and an infinity for a
result past the end are the model's reading of R14 through IEEE-754 (log 15); that a NaN operand gives a NaN too,
and which NaN is free (log 5). -/
def Obligations.FloatAddMulAndCompare : Prop :=
  (∀ a b : F32, isFinite a = true → isFinite b = true →
    RoundedTo (value a + value b) (fadd a b) ∧ RoundedTo (value a - value b) (fsub a b) ∧
    RoundedTo (value a * value b) (fmul a b) ∧
    (value a + value b = 0 → fadd a b = zeroOf (negative a && negative b)) ∧
    (value a - value b = 0 → fsub a b = zeroOf (negative a && !negative b)) ∧
    negative (fmul a b) = (negative a ^^ negative b) ∧
    (flt a b = true ↔ value a < value b) ∧ (fle a b = true ↔ value a ≤ value b) ∧
    (feq a b = true ↔ value a = value b)) ∧
  (∀ a b : F32, isNaN a = true ∨ isNaN b = true →
    isNaN (fadd a b) = true ∧ isNaN (fsub a b) = true ∧ isNaN (fmul a b) = true ∧
    flt a b = false ∧ fle a b = false ∧ fgt a b = false ∧ fge a b = false ∧ feq a b = false) ∧
  (∀ (m n : Bool) (a : F32), isFinite a = true →
    fadd (infinityOf m) a = infinityOf m ∧ fadd a (infinityOf m) = infinityOf m ∧
    fsub (infinityOf m) a = infinityOf m ∧ fsub a (infinityOf m) = infinityOf (!m) ∧
    (value a ≠ 0 → fmul (infinityOf m) a = infinityOf (m ^^ negative a) ∧
      fmul a (infinityOf m) = infinityOf (m ^^ negative a)) ∧
    isNaN (fmul (infinityOf m) (zeroOf n)) = true ∧ isNaN (fmul (zeroOf n) (infinityOf m)) = true ∧
    fmul (infinityOf m) (infinityOf n) = infinityOf (m ^^ n)) ∧
  (∀ m : Bool,
    fadd (infinityOf m) (infinityOf m) = infinityOf m ∧ isNaN (fadd (infinityOf m) (infinityOf (!m))) = true ∧
    fsub (infinityOf m) (infinityOf (!m)) = infinityOf m ∧ isNaN (fsub (infinityOf m) (infinityOf m)) = true) ∧
  (∀ (m : Bool) (a : F32), isFinite a = true →
    flt a (infinityOf m) = !m ∧ flt (infinityOf m) a = m ∧ fle a (infinityOf m) = !m ∧ fle (infinityOf m) a = m ∧
    feq a (infinityOf m) = false ∧ feq (infinityOf m) a = false) ∧
  (∀ m n : Bool,
    flt (infinityOf m) (infinityOf n) = (m && !n) ∧ fle (infinityOf m) (infinityOf n) = (m || !n) ∧
    feq (infinityOf m) (infinityOf n) = (m == n)) ∧
  (∀ a b : F32, fgt a b = flt b a ∧ fge a b = fle b a) ∧
  (∀ a : F32, (isFinite a = true ↔ a.toNat / 2 ^ 23 % 256 ≠ 255) ∧
    (isNaN a = true ↔ a.toNat / 2 ^ 23 % 256 = 255 ∧ a.toNat % 2 ^ 23 ≠ 0))

/-- The quotient by a non-zero number and the square root of a number that is not negative are the exact
results rounded to nearest, ties to even; the f32 of an integer up to 2^24, as SPS in R318, is that integer. The
signs of zero results, quotients by a zero, the operations on infinities, the root of a negative number, and an
infinity for a quotient past the end are the model's reading of R14 through IEEE-754 (log 15); that a NaN operand
gives a NaN too, and which NaN is free (log 5). -/
def Obligations.FloatDivAndSqrt : Prop :=
  (∀ a b : F32, isFinite a = true → isFinite b = true → value b ≠ 0 →
    RoundedTo (value a / value b) (fdiv a b) ∧ negative (fdiv a b) = (negative a ^^ negative b)) ∧
  (∀ a : F32, isFinite a = true → 0 ≤ value a → RoundedTo (Real.sqrt (value a)) (fsqrt a)) ∧
  (∀ (m n : Bool) (a : F32), isFinite a = true →
    (value a ≠ 0 → fdiv a (zeroOf m) = infinityOf (negative a ^^ m)) ∧
    isNaN (fdiv (zeroOf m) (zeroOf n)) = true ∧
    fdiv (infinityOf m) a = infinityOf (m ^^ negative a) ∧ fdiv a (infinityOf m) = zeroOf (negative a ^^ m) ∧
    isNaN (fdiv (infinityOf m) (infinityOf n)) = true) ∧
  (∀ m : Bool, fsqrt (zeroOf m) = zeroOf m) ∧
  fsqrt (infinityOf false) = infinityOf false ∧ isNaN (fsqrt (infinityOf true)) = true ∧
  (∀ a : F32, isFinite a = true → value a < 0 → isNaN (fsqrt a) = true) ∧
  (∀ a b : F32, isNaN a = true ∨ isNaN b = true → isNaN (fdiv a b) = true) ∧
  (∀ a : F32, isNaN a = true → isNaN (fsqrt a) = true) ∧
  (∀ n : Nat, n ≤ 2 ^ 24 → isFinite (fofNat n) = true ∧ value (fofNat n) = n)
end

