-- ==== Sys2Proof/Laws/Float.lean ====
section
/-! SUPPORT. The comparisons of R14 as an order: what each says once, and how two of them combine. -/

namespace Sys2Proof.Machine

/-- `flt` says: both operands are numbers, and the first stands below the second. -/
theorem flt_iff (a b : F32) : flt a b = true ↔ isNaN a = false ∧ isNaN b = false ∧ orderKey a < orderKey b := by
  simp [flt, and_assoc]

/-- `fle` says: both operands are numbers, and the first does not stand above the second. -/
theorem fle_iff (a b : F32) : fle a b = true ↔ isNaN a = false ∧ isNaN b = false ∧ orderKey a ≤ orderKey b := by
  simp [fle, and_assoc]

/-- `feq` says: both operands are numbers, and they stand at the same place. -/
theorem feq_iff (a b : F32) : feq a b = true ↔ isNaN a = false ∧ isNaN b = false ∧ orderKey a = orderKey b := by
  simp [feq, and_assoc]

theorem fgt_iff (a b : F32) : fgt a b = true ↔ isNaN b = false ∧ isNaN a = false ∧ orderKey b < orderKey a :=
  flt_iff b a

theorem fge_iff (a b : F32) : fge a b = true ↔ isNaN b = false ∧ isNaN a = false ∧ orderKey b ≤ orderKey a :=
  fle_iff b a

theorem flt_irrefl (a : F32) : flt a a = false := by
  rw [Bool.eq_false_iff, ne_eq, flt_iff]; omega

theorem flt_trans (a b c : F32) (h : flt a b = true) (k : flt b c = true) : flt a c = true := by
  rw [flt_iff] at *
  exact ⟨h.1, k.2.1, h.2.2.trans k.2.2⟩

/-- Greater than something excludes being reached by it. -/
theorem fge_false_of_fgt (a b : F32) (h : fgt b a = true) : fge a b = false := by
  rw [fgt_iff] at h
  rw [Bool.eq_false_iff, ne_eq, fge_iff]; omega

/-- What does not exceed a candidate does not reach anything greater than the candidate. -/
theorem fge_false_of_not_fgt (a b c : F32) (h : fgt a b = false) (k : fgt c b = true) : fge a c = false := by
  rw [fgt_iff] at k
  rw [Bool.eq_false_iff, ne_eq, fgt_iff] at h
  rw [Bool.eq_false_iff, ne_eq, fge_iff]
  rintro ⟨hc, ha, hle⟩
  exact h ⟨k.1, ha, by omega⟩

theorem fgt_false_of_fge_false (a b : F32) (h : fge a b = false) : fgt a b = false := by
  rw [Bool.eq_false_iff, ne_eq, fge_iff] at h
  rw [Bool.eq_false_iff, ne_eq, fgt_iff]
  rintro ⟨hb, ha, hlt⟩
  exact h ⟨hb, ha, by omega⟩

theorem isFinite_not_nan (a : F32) (h : isFinite a = true) : isNaN a = false := by
  unfold isFinite at h
  unfold isNaN
  rw [decide_eq_true_eq] at h
  rw [decide_eq_false_iff_not]
  omega

/-- `fneg` flips the sign bit only. -/
theorem fneg_fneg (a : F32) : fneg (fneg a) = a := by
  unfold fneg
  rw [BitVec.xor_assoc]
  simp

/-- The NaN an operation gives is one, whatever the free constant is (log 5). -/
theorem isNaN_nanOf (op : Config.FloatOp) (a b : F32) : isNaN (nanOf op a b) = true := by
  unfold nanOf
  by_cases h : isNaN (Config.nanResult op a b) = true
  · rw [if_pos h]; exact h
  · rw [if_neg h]; decide

end Sys2Proof.Machine
end

