-- ==== Sys2Proof/Laws/State.lean ====
section
/-! SUPPORT. The state's updates, one lemma per field per update: no later proof unfolds a record update. -/

namespace Sys2Proof.Machine

/-! `State.recordError` (R402) -/

@[simp] theorem State.recordError_cmd (s : State) (c : ErrorCode) : (s.recordError c).cmd = s.cmd := rfl
@[simp] theorem State.recordError_pending (s : State) (c : ErrorCode) :
    (s.recordError c).pending = s.pending := rfl
@[simp] theorem State.recordError_err (s : State) (c : ErrorCode) : (s.recordError c).err = true := rfl
@[simp] theorem State.recordError_errCode (s : State) (c : ErrorCode) : (s.recordError c).errCode = c := rfl
@[simp] theorem State.recordError_irqEn (s : State) (c : ErrorCode) : (s.recordError c).irqEn = s.irqEn := rfl
@[simp] theorem State.recordError_irqPend (s : State) (c : ErrorCode) :
    (s.recordError c).irqPend = s.irqPend ||| errEv := rfl
@[simp] theorem State.recordError_mode (s : State) (c : ErrorCode) : (s.recordError c).mode = s.mode := rfl
@[simp] theorem State.recordError_layout (s : State) (c : ErrorCode) :
    (s.recordError c).layout = s.layout := rfl
@[simp] theorem State.recordError_tpl (s : State) (c : ErrorCode) : (s.recordError c).tpl = s.tpl := rfl
@[simp] theorem State.recordError_search (s : State) (c : ErrorCode) :
    (s.recordError c).search = s.search := rfl
@[simp] theorem State.recordError_corrThresh (s : State) (c : ErrorCode) :
    (s.recordError c).corrThresh = s.corrThresh := rfl
@[simp] theorem State.recordError_zeta (s : State) (c : ErrorCode) : (s.recordError c).zeta = s.zeta := rfl
@[simp] theorem State.recordError_omega (s : State) (c : ErrorCode) : (s.recordError c).omega = s.omega := rfl
@[simp] theorem State.recordError_sampI (s : State) (c : ErrorCode) : (s.recordError c).sampI = s.sampI := rfl
@[simp] theorem State.recordError_sampQ (s : State) (c : ErrorCode) : (s.recordError c).sampQ = s.sampQ := rfl
@[simp] theorem State.recordError_ptI (s : State) (c : ErrorCode) : (s.recordError c).ptI = s.ptI := rfl
@[simp] theorem State.recordError_ptQ (s : State) (c : ErrorCode) : (s.recordError c).ptQ = s.ptQ := rfl
@[simp] theorem State.recordError_result (s : State) (c : ErrorCode) :
    (s.recordError c).result = s.result := rfl
@[simp] theorem State.recordError_soft (s : State) (c : ErrorCode) : (s.recordError c).soft = s.soft := rfl
@[simp] theorem State.recordError_scr (s : State) (c : ErrorCode) : (s.recordError c).scr = s.scr := rfl
@[simp] theorem State.recordError_sync (s : State) (c : ErrorCode) : (s.recordError c).sync = s.sync := rfl
@[simp] theorem State.recordError_corr (s : State) (c : ErrorCode) : (s.recordError c).corr = s.corr := rfl
@[simp] theorem State.recordError_inbox (s : State) (c : ErrorCode) : (s.recordError c).inbox = s.inbox := rfl
@[simp] theorem State.recordError_replies (s : State) (c : ErrorCode) :
    (s.recordError c).replies = s.replies := rfl
@[simp] theorem State.recordError_freeCount (s : State) (c : ErrorCode) :
    (s.recordError c).freeCount = s.freeCount := rfl

/-! `State.statusW1c` (R315) -/

@[simp] theorem State.statusW1c_cmd (s : State) (v : Word) : (s.statusW1c v).cmd = s.cmd := rfl
@[simp] theorem State.statusW1c_pending (s : State) (v : Word) : (s.statusW1c v).pending = s.pending := rfl
@[simp] theorem State.statusW1c_err (s : State) (v : Word) :
    (s.statusW1c v).err = if bit v 1 then false else s.err := rfl
@[simp] theorem State.statusW1c_errCode (s : State) (v : Word) :
    (s.statusW1c v).errCode = if bit v 1 then .noError else s.errCode := rfl
@[simp] theorem State.statusW1c_irqEn (s : State) (v : Word) : (s.statusW1c v).irqEn = s.irqEn := rfl
@[simp] theorem State.statusW1c_irqPend (s : State) (v : Word) : (s.statusW1c v).irqPend = s.irqPend := rfl
@[simp] theorem State.statusW1c_mode (s : State) (v : Word) : (s.statusW1c v).mode = s.mode := rfl
@[simp] theorem State.statusW1c_layout (s : State) (v : Word) : (s.statusW1c v).layout = s.layout := rfl
@[simp] theorem State.statusW1c_tpl (s : State) (v : Word) : (s.statusW1c v).tpl = s.tpl := rfl
@[simp] theorem State.statusW1c_search (s : State) (v : Word) : (s.statusW1c v).search = s.search := rfl
@[simp] theorem State.statusW1c_corrThresh (s : State) (v : Word) :
    (s.statusW1c v).corrThresh = s.corrThresh := rfl
@[simp] theorem State.statusW1c_zeta (s : State) (v : Word) : (s.statusW1c v).zeta = s.zeta := rfl
@[simp] theorem State.statusW1c_omega (s : State) (v : Word) : (s.statusW1c v).omega = s.omega := rfl
@[simp] theorem State.statusW1c_sampI (s : State) (v : Word) : (s.statusW1c v).sampI = s.sampI := rfl
@[simp] theorem State.statusW1c_sampQ (s : State) (v : Word) : (s.statusW1c v).sampQ = s.sampQ := rfl
@[simp] theorem State.statusW1c_ptI (s : State) (v : Word) : (s.statusW1c v).ptI = s.ptI := rfl
@[simp] theorem State.statusW1c_ptQ (s : State) (v : Word) : (s.statusW1c v).ptQ = s.ptQ := rfl
@[simp] theorem State.statusW1c_result (s : State) (v : Word) : (s.statusW1c v).result = s.result := rfl
@[simp] theorem State.statusW1c_soft (s : State) (v : Word) : (s.statusW1c v).soft = s.soft := rfl
@[simp] theorem State.statusW1c_scr (s : State) (v : Word) : (s.statusW1c v).scr = s.scr := rfl
@[simp] theorem State.statusW1c_sync (s : State) (v : Word) :
    (s.statusW1c v).sync = { s.sync with diverged := if bit v 2 then false else s.sync.diverged } := rfl
@[simp] theorem State.statusW1c_corr (s : State) (v : Word) : (s.statusW1c v).corr = s.corr := rfl
@[simp] theorem State.statusW1c_inbox (s : State) (v : Word) : (s.statusW1c v).inbox = s.inbox := rfl
@[simp] theorem State.statusW1c_replies (s : State) (v : Word) : (s.statusW1c v).replies = s.replies := rfl
@[simp] theorem State.statusW1c_freeCount (s : State) (v : Word) :
    (s.statusW1c v).freeCount = s.freeCount := rfl

/-! `State.irqAck` (R316) -/

@[simp] theorem State.irqAck_cmd (s : State) (v : Word) : (s.irqAck v).cmd = s.cmd := rfl
@[simp] theorem State.irqAck_pending (s : State) (v : Word) : (s.irqAck v).pending = s.pending := rfl
@[simp] theorem State.irqAck_err (s : State) (v : Word) : (s.irqAck v).err = s.err := rfl
@[simp] theorem State.irqAck_errCode (s : State) (v : Word) : (s.irqAck v).errCode = s.errCode := rfl
@[simp] theorem State.irqAck_irqEn (s : State) (v : Word) : (s.irqAck v).irqEn = s.irqEn := rfl
@[simp] theorem State.irqAck_irqPend (s : State) (v : Word) :
    (s.irqAck v).irqPend = s.irqPend &&& ~~~(v.setWidth 4) := rfl
@[simp] theorem State.irqAck_mode (s : State) (v : Word) : (s.irqAck v).mode = s.mode := rfl
@[simp] theorem State.irqAck_layout (s : State) (v : Word) : (s.irqAck v).layout = s.layout := rfl
@[simp] theorem State.irqAck_tpl (s : State) (v : Word) : (s.irqAck v).tpl = s.tpl := rfl
@[simp] theorem State.irqAck_search (s : State) (v : Word) : (s.irqAck v).search = s.search := rfl
@[simp] theorem State.irqAck_corrThresh (s : State) (v : Word) : (s.irqAck v).corrThresh = s.corrThresh := rfl
@[simp] theorem State.irqAck_zeta (s : State) (v : Word) : (s.irqAck v).zeta = s.zeta := rfl
@[simp] theorem State.irqAck_omega (s : State) (v : Word) : (s.irqAck v).omega = s.omega := rfl
@[simp] theorem State.irqAck_sampI (s : State) (v : Word) : (s.irqAck v).sampI = s.sampI := rfl
@[simp] theorem State.irqAck_sampQ (s : State) (v : Word) : (s.irqAck v).sampQ = s.sampQ := rfl
@[simp] theorem State.irqAck_ptI (s : State) (v : Word) : (s.irqAck v).ptI = s.ptI := rfl
@[simp] theorem State.irqAck_ptQ (s : State) (v : Word) : (s.irqAck v).ptQ = s.ptQ := rfl
@[simp] theorem State.irqAck_result (s : State) (v : Word) : (s.irqAck v).result = s.result := rfl
@[simp] theorem State.irqAck_soft (s : State) (v : Word) : (s.irqAck v).soft = s.soft := rfl
@[simp] theorem State.irqAck_scr (s : State) (v : Word) : (s.irqAck v).scr = s.scr := rfl
@[simp] theorem State.irqAck_sync (s : State) (v : Word) : (s.irqAck v).sync = s.sync := rfl
@[simp] theorem State.irqAck_corr (s : State) (v : Word) : (s.irqAck v).corr = s.corr := rfl
@[simp] theorem State.irqAck_inbox (s : State) (v : Word) : (s.irqAck v).inbox = s.inbox := rfl
@[simp] theorem State.irqAck_replies (s : State) (v : Word) : (s.irqAck v).replies = s.replies := rfl
@[simp] theorem State.irqAck_freeCount (s : State) (v : Word) : (s.irqAck v).freeCount = s.freeCount := rfl

/-! `State.raiseEvent` (R410) -/

@[simp] theorem State.raiseEvent_cmd (s : State) (b : Bool) (ev : BitVec 4) :
    (s.raiseEvent b ev).cmd = s.cmd := rfl
@[simp] theorem State.raiseEvent_pending (s : State) (b : Bool) (ev : BitVec 4) :
    (s.raiseEvent b ev).pending = s.pending := rfl
@[simp] theorem State.raiseEvent_err (s : State) (b : Bool) (ev : BitVec 4) :
    (s.raiseEvent b ev).err = s.err := rfl
@[simp] theorem State.raiseEvent_errCode (s : State) (b : Bool) (ev : BitVec 4) :
    (s.raiseEvent b ev).errCode = s.errCode := rfl
@[simp] theorem State.raiseEvent_irqEn (s : State) (b : Bool) (ev : BitVec 4) :
    (s.raiseEvent b ev).irqEn = s.irqEn := rfl
@[simp] theorem State.raiseEvent_irqPend (s : State) (b : Bool) (ev : BitVec 4) :
    (s.raiseEvent b ev).irqPend = if b then s.irqPend ||| ev else s.irqPend := rfl
@[simp] theorem State.raiseEvent_mode (s : State) (b : Bool) (ev : BitVec 4) :
    (s.raiseEvent b ev).mode = s.mode := rfl
@[simp] theorem State.raiseEvent_layout (s : State) (b : Bool) (ev : BitVec 4) :
    (s.raiseEvent b ev).layout = s.layout := rfl
@[simp] theorem State.raiseEvent_tpl (s : State) (b : Bool) (ev : BitVec 4) :
    (s.raiseEvent b ev).tpl = s.tpl := rfl
@[simp] theorem State.raiseEvent_search (s : State) (b : Bool) (ev : BitVec 4) :
    (s.raiseEvent b ev).search = s.search := rfl
@[simp] theorem State.raiseEvent_corrThresh (s : State) (b : Bool) (ev : BitVec 4) :
    (s.raiseEvent b ev).corrThresh = s.corrThresh := rfl
@[simp] theorem State.raiseEvent_zeta (s : State) (b : Bool) (ev : BitVec 4) :
    (s.raiseEvent b ev).zeta = s.zeta := rfl
@[simp] theorem State.raiseEvent_omega (s : State) (b : Bool) (ev : BitVec 4) :
    (s.raiseEvent b ev).omega = s.omega := rfl
@[simp] theorem State.raiseEvent_sampI (s : State) (b : Bool) (ev : BitVec 4) :
    (s.raiseEvent b ev).sampI = s.sampI := rfl
@[simp] theorem State.raiseEvent_sampQ (s : State) (b : Bool) (ev : BitVec 4) :
    (s.raiseEvent b ev).sampQ = s.sampQ := rfl
@[simp] theorem State.raiseEvent_ptI (s : State) (b : Bool) (ev : BitVec 4) :
    (s.raiseEvent b ev).ptI = s.ptI := rfl
@[simp] theorem State.raiseEvent_ptQ (s : State) (b : Bool) (ev : BitVec 4) :
    (s.raiseEvent b ev).ptQ = s.ptQ := rfl
@[simp] theorem State.raiseEvent_result (s : State) (b : Bool) (ev : BitVec 4) :
    (s.raiseEvent b ev).result = s.result := rfl
@[simp] theorem State.raiseEvent_soft (s : State) (b : Bool) (ev : BitVec 4) :
    (s.raiseEvent b ev).soft = s.soft := rfl
@[simp] theorem State.raiseEvent_scr (s : State) (b : Bool) (ev : BitVec 4) :
    (s.raiseEvent b ev).scr = s.scr := rfl
@[simp] theorem State.raiseEvent_sync (s : State) (b : Bool) (ev : BitVec 4) :
    (s.raiseEvent b ev).sync = s.sync := rfl
@[simp] theorem State.raiseEvent_corr (s : State) (b : Bool) (ev : BitVec 4) :
    (s.raiseEvent b ev).corr = s.corr := rfl
@[simp] theorem State.raiseEvent_inbox (s : State) (b : Bool) (ev : BitVec 4) :
    (s.raiseEvent b ev).inbox = s.inbox := rfl
@[simp] theorem State.raiseEvent_replies (s : State) (b : Bool) (ev : BitVec 4) :
    (s.raiseEvent b ev).replies = s.replies := rfl
@[simp] theorem State.raiseEvent_freeCount (s : State) (b : Bool) (ev : BitVec 4) :
    (s.raiseEvent b ev).freeCount = s.freeCount := rfl

/-! `State.setResult` (R44) -/

@[simp] theorem State.setResult_cmd (s : State) (t i st c : Nat) : (s.setResult t i st c).cmd = s.cmd := rfl
@[simp] theorem State.setResult_pending (s : State) (t i st c : Nat) :
    (s.setResult t i st c).pending = s.pending := rfl
@[simp] theorem State.setResult_err (s : State) (t i st c : Nat) : (s.setResult t i st c).err = s.err := rfl
@[simp] theorem State.setResult_errCode (s : State) (t i st c : Nat) :
    (s.setResult t i st c).errCode = s.errCode := rfl
@[simp] theorem State.setResult_irqEn (s : State) (t i st c : Nat) :
    (s.setResult t i st c).irqEn = s.irqEn := rfl
@[simp] theorem State.setResult_irqPend (s : State) (t i st c : Nat) :
    (s.setResult t i st c).irqPend = s.irqPend := rfl
@[simp] theorem State.setResult_mode (s : State) (t i st c : Nat) : (s.setResult t i st c).mode = s.mode := rfl
@[simp] theorem State.setResult_layout (s : State) (t i st c : Nat) :
    (s.setResult t i st c).layout = s.layout := rfl
@[simp] theorem State.setResult_tpl (s : State) (t i st c : Nat) : (s.setResult t i st c).tpl = s.tpl := rfl
@[simp] theorem State.setResult_search (s : State) (t i st c : Nat) :
    (s.setResult t i st c).search = s.search := rfl
@[simp] theorem State.setResult_corrThresh (s : State) (t i st c : Nat) :
    (s.setResult t i st c).corrThresh = s.corrThresh := rfl
@[simp] theorem State.setResult_zeta (s : State) (t i st c : Nat) : (s.setResult t i st c).zeta = s.zeta := rfl
@[simp] theorem State.setResult_omega (s : State) (t i st c : Nat) :
    (s.setResult t i st c).omega = s.omega := rfl
@[simp] theorem State.setResult_sampI (s : State) (t i st c : Nat) :
    (s.setResult t i st c).sampI = s.sampI := rfl
@[simp] theorem State.setResult_sampQ (s : State) (t i st c : Nat) :
    (s.setResult t i st c).sampQ = s.sampQ := rfl
@[simp] theorem State.setResult_ptI (s : State) (t i st c : Nat) : (s.setResult t i st c).ptI = s.ptI := rfl
@[simp] theorem State.setResult_ptQ (s : State) (t i st c : Nat) : (s.setResult t i st c).ptQ = s.ptQ := rfl
@[simp] theorem State.setResult_result (s : State) (t i st c : Nat) :
    (s.setResult t i st c).result = resultWord t i st c := rfl
@[simp] theorem State.setResult_soft (s : State) (t i st c : Nat) : (s.setResult t i st c).soft = s.soft := rfl
@[simp] theorem State.setResult_scr (s : State) (t i st c : Nat) : (s.setResult t i st c).scr = s.scr := rfl
@[simp] theorem State.setResult_sync (s : State) (t i st c : Nat) : (s.setResult t i st c).sync = s.sync := rfl
@[simp] theorem State.setResult_corr (s : State) (t i st c : Nat) : (s.setResult t i st c).corr = s.corr := rfl
@[simp] theorem State.setResult_inbox (s : State) (t i st c : Nat) :
    (s.setResult t i st c).inbox = s.inbox := rfl
@[simp] theorem State.setResult_replies (s : State) (t i st c : Nat) :
    (s.setResult t i st c).replies = s.replies := rfl
@[simp] theorem State.setResult_freeCount (s : State) (t i st c : Nat) :
    (s.setResult t i st c).freeCount = s.freeCount := rfl

/-! `State.setPoint` (R43) -/

@[simp] theorem State.setPoint_cmd (s : State) (c : Cplx) : (s.setPoint c).cmd = s.cmd := rfl
@[simp] theorem State.setPoint_pending (s : State) (c : Cplx) : (s.setPoint c).pending = s.pending := rfl
@[simp] theorem State.setPoint_err (s : State) (c : Cplx) : (s.setPoint c).err = s.err := rfl
@[simp] theorem State.setPoint_errCode (s : State) (c : Cplx) : (s.setPoint c).errCode = s.errCode := rfl
@[simp] theorem State.setPoint_irqEn (s : State) (c : Cplx) : (s.setPoint c).irqEn = s.irqEn := rfl
@[simp] theorem State.setPoint_irqPend (s : State) (c : Cplx) : (s.setPoint c).irqPend = s.irqPend := rfl
@[simp] theorem State.setPoint_mode (s : State) (c : Cplx) : (s.setPoint c).mode = s.mode := rfl
@[simp] theorem State.setPoint_layout (s : State) (c : Cplx) : (s.setPoint c).layout = s.layout := rfl
@[simp] theorem State.setPoint_tpl (s : State) (c : Cplx) : (s.setPoint c).tpl = s.tpl := rfl
@[simp] theorem State.setPoint_search (s : State) (c : Cplx) : (s.setPoint c).search = s.search := rfl
@[simp] theorem State.setPoint_corrThresh (s : State) (c : Cplx) :
    (s.setPoint c).corrThresh = s.corrThresh := rfl
@[simp] theorem State.setPoint_zeta (s : State) (c : Cplx) : (s.setPoint c).zeta = s.zeta := rfl
@[simp] theorem State.setPoint_omega (s : State) (c : Cplx) : (s.setPoint c).omega = s.omega := rfl
@[simp] theorem State.setPoint_sampI (s : State) (c : Cplx) : (s.setPoint c).sampI = s.sampI := rfl
@[simp] theorem State.setPoint_sampQ (s : State) (c : Cplx) : (s.setPoint c).sampQ = s.sampQ := rfl
@[simp] theorem State.setPoint_ptI (s : State) (c : Cplx) : (s.setPoint c).ptI = c.i := rfl
@[simp] theorem State.setPoint_ptQ (s : State) (c : Cplx) : (s.setPoint c).ptQ = c.q := rfl
@[simp] theorem State.setPoint_result (s : State) (c : Cplx) : (s.setPoint c).result = s.result := rfl
@[simp] theorem State.setPoint_soft (s : State) (c : Cplx) : (s.setPoint c).soft = s.soft := rfl
@[simp] theorem State.setPoint_scr (s : State) (c : Cplx) : (s.setPoint c).scr = s.scr := rfl
@[simp] theorem State.setPoint_sync (s : State) (c : Cplx) : (s.setPoint c).sync = s.sync := rfl
@[simp] theorem State.setPoint_corr (s : State) (c : Cplx) : (s.setPoint c).corr = s.corr := rfl
@[simp] theorem State.setPoint_inbox (s : State) (c : Cplx) : (s.setPoint c).inbox = s.inbox := rfl
@[simp] theorem State.setPoint_replies (s : State) (c : Cplx) : (s.setPoint c).replies = s.replies := rfl
@[simp] theorem State.setPoint_freeCount (s : State) (c : Cplx) : (s.setPoint c).freeCount = s.freeCount := rfl

/-! `State.setScr` (R46) -/

@[simp] theorem State.setScr_cmd (s : State) (c : Scrambler) : (s.setScr c).cmd = s.cmd := rfl
@[simp] theorem State.setScr_pending (s : State) (c : Scrambler) : (s.setScr c).pending = s.pending := rfl
@[simp] theorem State.setScr_err (s : State) (c : Scrambler) : (s.setScr c).err = s.err := rfl
@[simp] theorem State.setScr_errCode (s : State) (c : Scrambler) : (s.setScr c).errCode = s.errCode := rfl
@[simp] theorem State.setScr_irqEn (s : State) (c : Scrambler) : (s.setScr c).irqEn = s.irqEn := rfl
@[simp] theorem State.setScr_irqPend (s : State) (c : Scrambler) : (s.setScr c).irqPend = s.irqPend := rfl
@[simp] theorem State.setScr_mode (s : State) (c : Scrambler) : (s.setScr c).mode = s.mode := rfl
@[simp] theorem State.setScr_layout (s : State) (c : Scrambler) : (s.setScr c).layout = s.layout := rfl
@[simp] theorem State.setScr_tpl (s : State) (c : Scrambler) : (s.setScr c).tpl = s.tpl := rfl
@[simp] theorem State.setScr_search (s : State) (c : Scrambler) : (s.setScr c).search = s.search := rfl
@[simp] theorem State.setScr_corrThresh (s : State) (c : Scrambler) :
    (s.setScr c).corrThresh = s.corrThresh := rfl
@[simp] theorem State.setScr_zeta (s : State) (c : Scrambler) : (s.setScr c).zeta = s.zeta := rfl
@[simp] theorem State.setScr_omega (s : State) (c : Scrambler) : (s.setScr c).omega = s.omega := rfl
@[simp] theorem State.setScr_sampI (s : State) (c : Scrambler) : (s.setScr c).sampI = s.sampI := rfl
@[simp] theorem State.setScr_sampQ (s : State) (c : Scrambler) : (s.setScr c).sampQ = s.sampQ := rfl
@[simp] theorem State.setScr_ptI (s : State) (c : Scrambler) : (s.setScr c).ptI = s.ptI := rfl
@[simp] theorem State.setScr_ptQ (s : State) (c : Scrambler) : (s.setScr c).ptQ = s.ptQ := rfl
@[simp] theorem State.setScr_result (s : State) (c : Scrambler) : (s.setScr c).result = s.result := rfl
@[simp] theorem State.setScr_soft (s : State) (c : Scrambler) : (s.setScr c).soft = s.soft := rfl
@[simp] theorem State.setScr_scr (s : State) (c : Scrambler) : (s.setScr c).scr = c := rfl
@[simp] theorem State.setScr_sync (s : State) (c : Scrambler) : (s.setScr c).sync = s.sync := rfl
@[simp] theorem State.setScr_corr (s : State) (c : Scrambler) : (s.setScr c).corr = s.corr := rfl
@[simp] theorem State.setScr_inbox (s : State) (c : Scrambler) : (s.setScr c).inbox = s.inbox := rfl
@[simp] theorem State.setScr_replies (s : State) (c : Scrambler) : (s.setScr c).replies = s.replies := rfl
@[simp] theorem State.setScr_freeCount (s : State) (c : Scrambler) :
    (s.setScr c).freeCount = s.freeCount := rfl

/-! `State.setSync` (R53) -/

@[simp] theorem State.setSync_cmd (s : State) (y : Synchronizer) : (s.setSync y).cmd = s.cmd := rfl
@[simp] theorem State.setSync_pending (s : State) (y : Synchronizer) : (s.setSync y).pending = s.pending := rfl
@[simp] theorem State.setSync_err (s : State) (y : Synchronizer) : (s.setSync y).err = s.err := rfl
@[simp] theorem State.setSync_errCode (s : State) (y : Synchronizer) : (s.setSync y).errCode = s.errCode := rfl
@[simp] theorem State.setSync_irqEn (s : State) (y : Synchronizer) : (s.setSync y).irqEn = s.irqEn := rfl
@[simp] theorem State.setSync_irqPend (s : State) (y : Synchronizer) : (s.setSync y).irqPend = s.irqPend := rfl
@[simp] theorem State.setSync_mode (s : State) (y : Synchronizer) : (s.setSync y).mode = s.mode := rfl
@[simp] theorem State.setSync_layout (s : State) (y : Synchronizer) : (s.setSync y).layout = s.layout := rfl
@[simp] theorem State.setSync_tpl (s : State) (y : Synchronizer) : (s.setSync y).tpl = s.tpl := rfl
@[simp] theorem State.setSync_search (s : State) (y : Synchronizer) : (s.setSync y).search = s.search := rfl
@[simp] theorem State.setSync_corrThresh (s : State) (y : Synchronizer) :
    (s.setSync y).corrThresh = s.corrThresh := rfl
@[simp] theorem State.setSync_zeta (s : State) (y : Synchronizer) : (s.setSync y).zeta = s.zeta := rfl
@[simp] theorem State.setSync_omega (s : State) (y : Synchronizer) : (s.setSync y).omega = s.omega := rfl
@[simp] theorem State.setSync_sampI (s : State) (y : Synchronizer) : (s.setSync y).sampI = s.sampI := rfl
@[simp] theorem State.setSync_sampQ (s : State) (y : Synchronizer) : (s.setSync y).sampQ = s.sampQ := rfl
@[simp] theorem State.setSync_ptI (s : State) (y : Synchronizer) : (s.setSync y).ptI = s.ptI := rfl
@[simp] theorem State.setSync_ptQ (s : State) (y : Synchronizer) : (s.setSync y).ptQ = s.ptQ := rfl
@[simp] theorem State.setSync_result (s : State) (y : Synchronizer) : (s.setSync y).result = s.result := rfl
@[simp] theorem State.setSync_soft (s : State) (y : Synchronizer) : (s.setSync y).soft = s.soft := rfl
@[simp] theorem State.setSync_scr (s : State) (y : Synchronizer) : (s.setSync y).scr = s.scr := rfl
@[simp] theorem State.setSync_sync (s : State) (y : Synchronizer) : (s.setSync y).sync = y := rfl
@[simp] theorem State.setSync_corr (s : State) (y : Synchronizer) : (s.setSync y).corr = s.corr := rfl
@[simp] theorem State.setSync_inbox (s : State) (y : Synchronizer) : (s.setSync y).inbox = s.inbox := rfl
@[simp] theorem State.setSync_replies (s : State) (y : Synchronizer) : (s.setSync y).replies = s.replies := rfl
@[simp] theorem State.setSync_freeCount (s : State) (y : Synchronizer) :
    (s.setSync y).freeCount = s.freeCount := rfl

/-! `State.setCorr` (R53) -/

@[simp] theorem State.setCorr_cmd (s : State) (c : Correlator) : (s.setCorr c).cmd = s.cmd := rfl
@[simp] theorem State.setCorr_pending (s : State) (c : Correlator) : (s.setCorr c).pending = s.pending := rfl
@[simp] theorem State.setCorr_err (s : State) (c : Correlator) : (s.setCorr c).err = s.err := rfl
@[simp] theorem State.setCorr_errCode (s : State) (c : Correlator) : (s.setCorr c).errCode = s.errCode := rfl
@[simp] theorem State.setCorr_irqEn (s : State) (c : Correlator) : (s.setCorr c).irqEn = s.irqEn := rfl
@[simp] theorem State.setCorr_irqPend (s : State) (c : Correlator) : (s.setCorr c).irqPend = s.irqPend := rfl
@[simp] theorem State.setCorr_mode (s : State) (c : Correlator) : (s.setCorr c).mode = s.mode := rfl
@[simp] theorem State.setCorr_layout (s : State) (c : Correlator) : (s.setCorr c).layout = s.layout := rfl
@[simp] theorem State.setCorr_tpl (s : State) (c : Correlator) : (s.setCorr c).tpl = s.tpl := rfl
@[simp] theorem State.setCorr_search (s : State) (c : Correlator) : (s.setCorr c).search = s.search := rfl
@[simp] theorem State.setCorr_corrThresh (s : State) (c : Correlator) :
    (s.setCorr c).corrThresh = s.corrThresh := rfl
@[simp] theorem State.setCorr_zeta (s : State) (c : Correlator) : (s.setCorr c).zeta = s.zeta := rfl
@[simp] theorem State.setCorr_omega (s : State) (c : Correlator) : (s.setCorr c).omega = s.omega := rfl
@[simp] theorem State.setCorr_sampI (s : State) (c : Correlator) : (s.setCorr c).sampI = s.sampI := rfl
@[simp] theorem State.setCorr_sampQ (s : State) (c : Correlator) : (s.setCorr c).sampQ = s.sampQ := rfl
@[simp] theorem State.setCorr_ptI (s : State) (c : Correlator) : (s.setCorr c).ptI = s.ptI := rfl
@[simp] theorem State.setCorr_ptQ (s : State) (c : Correlator) : (s.setCorr c).ptQ = s.ptQ := rfl
@[simp] theorem State.setCorr_result (s : State) (c : Correlator) : (s.setCorr c).result = s.result := rfl
@[simp] theorem State.setCorr_soft (s : State) (c : Correlator) : (s.setCorr c).soft = s.soft := rfl
@[simp] theorem State.setCorr_scr (s : State) (c : Correlator) : (s.setCorr c).scr = s.scr := rfl
@[simp] theorem State.setCorr_sync (s : State) (c : Correlator) : (s.setCorr c).sync = s.sync := rfl
@[simp] theorem State.setCorr_corr (s : State) (c : Correlator) : (s.setCorr c).corr = c := rfl
@[simp] theorem State.setCorr_inbox (s : State) (c : Correlator) : (s.setCorr c).inbox = s.inbox := rfl
@[simp] theorem State.setCorr_replies (s : State) (c : Correlator) : (s.setCorr c).replies = s.replies := rfl
@[simp] theorem State.setCorr_freeCount (s : State) (c : Correlator) :
    (s.setCorr c).freeCount = s.freeCount := rfl

/-! `State.unitReset` (R313) -/

@[simp] theorem State.unitReset_cmd (s : State) : (s.unitReset).cmd = s.cmd := rfl
@[simp] theorem State.unitReset_pending (s : State) : (s.unitReset).pending = s.pending := rfl
@[simp] theorem State.unitReset_err (s : State) : (s.unitReset).err = s.err := rfl
@[simp] theorem State.unitReset_errCode (s : State) : (s.unitReset).errCode = s.errCode := rfl
@[simp] theorem State.unitReset_irqEn (s : State) : (s.unitReset).irqEn = s.irqEn := rfl
@[simp] theorem State.unitReset_irqPend (s : State) : (s.unitReset).irqPend = s.irqPend := rfl
@[simp] theorem State.unitReset_mode (s : State) : (s.unitReset).mode = s.mode := rfl
@[simp] theorem State.unitReset_layout (s : State) : (s.unitReset).layout = s.layout := rfl
@[simp] theorem State.unitReset_tpl (s : State) : (s.unitReset).tpl = s.tpl := rfl
@[simp] theorem State.unitReset_search (s : State) : (s.unitReset).search = s.search := rfl
@[simp] theorem State.unitReset_corrThresh (s : State) : (s.unitReset).corrThresh = s.corrThresh := rfl
@[simp] theorem State.unitReset_zeta (s : State) : (s.unitReset).zeta = s.zeta := rfl
@[simp] theorem State.unitReset_omega (s : State) : (s.unitReset).omega = s.omega := rfl
@[simp] theorem State.unitReset_sampI (s : State) : (s.unitReset).sampI = s.sampI := rfl
@[simp] theorem State.unitReset_sampQ (s : State) : (s.unitReset).sampQ = s.sampQ := rfl
@[simp] theorem State.unitReset_ptI (s : State) : (s.unitReset).ptI = s.ptI := rfl
@[simp] theorem State.unitReset_ptQ (s : State) : (s.unitReset).ptQ = s.ptQ := rfl
@[simp] theorem State.unitReset_result (s : State) : (s.unitReset).result = s.result := rfl
@[simp] theorem State.unitReset_soft (s : State) : (s.unitReset).soft = s.soft := rfl
@[simp] theorem State.unitReset_scr (s : State) : (s.unitReset).scr = loadedScrambler := rfl
@[simp] theorem State.unitReset_sync (s : State) : (s.unitReset).sync = syncReset s.sync := rfl
@[simp] theorem State.unitReset_corr (s : State) : (s.unitReset).corr = corrReset s.corr := rfl
@[simp] theorem State.unitReset_inbox (s : State) : (s.unitReset).inbox = s.inbox := rfl
@[simp] theorem State.unitReset_replies (s : State) : (s.unitReset).replies = s.replies := rfl
@[simp] theorem State.unitReset_freeCount (s : State) : (s.unitReset).freeCount = s.freeCount := rfl

/-! `State.modeChanged` (R318) -/

@[simp] theorem State.modeChanged_cmd (s : State) : (s.modeChanged).cmd = s.cmd := rfl
@[simp] theorem State.modeChanged_pending (s : State) : (s.modeChanged).pending = s.pending := rfl
@[simp] theorem State.modeChanged_err (s : State) : (s.modeChanged).err = s.err := rfl
@[simp] theorem State.modeChanged_errCode (s : State) : (s.modeChanged).errCode = s.errCode := rfl
@[simp] theorem State.modeChanged_irqEn (s : State) : (s.modeChanged).irqEn = s.irqEn := rfl
@[simp] theorem State.modeChanged_irqPend (s : State) : (s.modeChanged).irqPend = s.irqPend := rfl
@[simp] theorem State.modeChanged_mode (s : State) : (s.modeChanged).mode = s.mode := rfl
@[simp] theorem State.modeChanged_layout (s : State) : (s.modeChanged).layout = s.layout := rfl
@[simp] theorem State.modeChanged_tpl (s : State) : (s.modeChanged).tpl = s.tpl := rfl
@[simp] theorem State.modeChanged_search (s : State) : (s.modeChanged).search = s.search := rfl
@[simp] theorem State.modeChanged_corrThresh (s : State) : (s.modeChanged).corrThresh = s.corrThresh := rfl
@[simp] theorem State.modeChanged_zeta (s : State) : (s.modeChanged).zeta = s.zeta := rfl
@[simp] theorem State.modeChanged_omega (s : State) : (s.modeChanged).omega = s.omega := rfl
@[simp] theorem State.modeChanged_sampI (s : State) : (s.modeChanged).sampI = s.sampI := rfl
@[simp] theorem State.modeChanged_sampQ (s : State) : (s.modeChanged).sampQ = s.sampQ := rfl
@[simp] theorem State.modeChanged_ptI (s : State) : (s.modeChanged).ptI = s.ptI := rfl
@[simp] theorem State.modeChanged_ptQ (s : State) : (s.modeChanged).ptQ = s.ptQ := rfl
@[simp] theorem State.modeChanged_result (s : State) : (s.modeChanged).result = s.result := rfl
@[simp] theorem State.modeChanged_soft (s : State) : (s.modeChanged).soft = s.soft := rfl
@[simp] theorem State.modeChanged_scr (s : State) : (s.modeChanged).scr = loadedScrambler := rfl
@[simp] theorem State.modeChanged_sync (s : State) :
    (s.modeChanged).sync = { syncReset s.sync with w := fdiv ftwo (fofNat s.sps) } := rfl
@[simp] theorem State.modeChanged_corr (s : State) : (s.modeChanged).corr = corrReset s.corr := rfl
@[simp] theorem State.modeChanged_inbox (s : State) : (s.modeChanged).inbox = s.inbox := rfl
@[simp] theorem State.modeChanged_replies (s : State) : (s.modeChanged).replies = s.replies := rfl
@[simp] theorem State.modeChanged_freeCount (s : State) : (s.modeChanged).freeCount = s.freeCount := rfl

/-! `State.hardReset` (R450) -/

@[simp] theorem State.hardReset_cmd (s : State) : (s.hardReset).cmd = State.reset.cmd := rfl
@[simp] theorem State.hardReset_pending (s : State) : (s.hardReset).pending = State.reset.pending := rfl
@[simp] theorem State.hardReset_err (s : State) : (s.hardReset).err = State.reset.err := rfl
@[simp] theorem State.hardReset_errCode (s : State) : (s.hardReset).errCode = State.reset.errCode := rfl
@[simp] theorem State.hardReset_irqEn (s : State) : (s.hardReset).irqEn = State.reset.irqEn := rfl
@[simp] theorem State.hardReset_irqPend (s : State) : (s.hardReset).irqPend = State.reset.irqPend := rfl
@[simp] theorem State.hardReset_mode (s : State) : (s.hardReset).mode = State.reset.mode := rfl
@[simp] theorem State.hardReset_layout (s : State) : (s.hardReset).layout = State.reset.layout := rfl
@[simp] theorem State.hardReset_tpl (s : State) : (s.hardReset).tpl = State.reset.tpl := rfl
@[simp] theorem State.hardReset_search (s : State) : (s.hardReset).search = State.reset.search := rfl
@[simp] theorem State.hardReset_corrThresh (s : State) :
    (s.hardReset).corrThresh = State.reset.corrThresh := rfl
@[simp] theorem State.hardReset_zeta (s : State) : (s.hardReset).zeta = State.reset.zeta := rfl
@[simp] theorem State.hardReset_omega (s : State) : (s.hardReset).omega = State.reset.omega := rfl
@[simp] theorem State.hardReset_sampI (s : State) : (s.hardReset).sampI = State.reset.sampI := rfl
@[simp] theorem State.hardReset_sampQ (s : State) : (s.hardReset).sampQ = State.reset.sampQ := rfl
@[simp] theorem State.hardReset_ptI (s : State) : (s.hardReset).ptI = State.reset.ptI := rfl
@[simp] theorem State.hardReset_ptQ (s : State) : (s.hardReset).ptQ = State.reset.ptQ := rfl
@[simp] theorem State.hardReset_result (s : State) : (s.hardReset).result = State.reset.result := rfl
@[simp] theorem State.hardReset_soft (s : State) : (s.hardReset).soft = State.reset.soft := rfl
@[simp] theorem State.hardReset_scr (s : State) : (s.hardReset).scr = State.reset.scr := rfl
@[simp] theorem State.hardReset_sync (s : State) : (s.hardReset).sync = State.reset.sync := rfl
@[simp] theorem State.hardReset_corr (s : State) : (s.hardReset).corr = State.reset.corr := rfl
@[simp] theorem State.hardReset_inbox (s : State) : (s.hardReset).inbox = s.inbox := rfl
@[simp] theorem State.hardReset_replies (s : State) : (s.hardReset).replies = s.replies := rfl
@[simp] theorem State.hardReset_freeCount (s : State) : (s.hardReset).freeCount = s.freeCount := rfl

/-! `State.issue` (R311) -/

@[simp] theorem State.issue_cmd (s : State) (v : Word) : (s.issue v).cmd = v := rfl
@[simp] theorem State.issue_pending (s : State) (v : Word) : (s.issue v).pending = some v := rfl
@[simp] theorem State.issue_err (s : State) (v : Word) : (s.issue v).err = s.err := rfl
@[simp] theorem State.issue_errCode (s : State) (v : Word) : (s.issue v).errCode = s.errCode := rfl
@[simp] theorem State.issue_irqEn (s : State) (v : Word) : (s.issue v).irqEn = s.irqEn := rfl
@[simp] theorem State.issue_irqPend (s : State) (v : Word) : (s.issue v).irqPend = s.irqPend := rfl
@[simp] theorem State.issue_mode (s : State) (v : Word) : (s.issue v).mode = s.mode := rfl
@[simp] theorem State.issue_layout (s : State) (v : Word) : (s.issue v).layout = s.layout := rfl
@[simp] theorem State.issue_tpl (s : State) (v : Word) : (s.issue v).tpl = s.tpl := rfl
@[simp] theorem State.issue_search (s : State) (v : Word) : (s.issue v).search = s.search := rfl
@[simp] theorem State.issue_corrThresh (s : State) (v : Word) : (s.issue v).corrThresh = s.corrThresh := rfl
@[simp] theorem State.issue_zeta (s : State) (v : Word) : (s.issue v).zeta = s.zeta := rfl
@[simp] theorem State.issue_omega (s : State) (v : Word) : (s.issue v).omega = s.omega := rfl
@[simp] theorem State.issue_sampI (s : State) (v : Word) : (s.issue v).sampI = s.sampI := rfl
@[simp] theorem State.issue_sampQ (s : State) (v : Word) : (s.issue v).sampQ = s.sampQ := rfl
@[simp] theorem State.issue_ptI (s : State) (v : Word) : (s.issue v).ptI = s.ptI := rfl
@[simp] theorem State.issue_ptQ (s : State) (v : Word) : (s.issue v).ptQ = s.ptQ := rfl
@[simp] theorem State.issue_result (s : State) (v : Word) : (s.issue v).result = s.result := rfl
@[simp] theorem State.issue_soft (s : State) (v : Word) : (s.issue v).soft = s.soft := rfl
@[simp] theorem State.issue_scr (s : State) (v : Word) : (s.issue v).scr = s.scr := rfl
@[simp] theorem State.issue_sync (s : State) (v : Word) : (s.issue v).sync = s.sync := rfl
@[simp] theorem State.issue_corr (s : State) (v : Word) : (s.issue v).corr = s.corr := rfl
@[simp] theorem State.issue_inbox (s : State) (v : Word) : (s.issue v).inbox = s.inbox := rfl
@[simp] theorem State.issue_replies (s : State) (v : Word) : (s.issue v).replies = s.replies := rfl
@[simp] theorem State.issue_freeCount (s : State) (v : Word) : (s.issue v).freeCount = s.freeCount := rfl

/-! `State.reply` (R324) -/

@[simp] theorem State.reply_cmd (s : State) (v : Word) : (s.reply v).cmd = s.cmd := rfl
@[simp] theorem State.reply_pending (s : State) (v : Word) : (s.reply v).pending = s.pending := rfl
@[simp] theorem State.reply_err (s : State) (v : Word) : (s.reply v).err = s.err := rfl
@[simp] theorem State.reply_errCode (s : State) (v : Word) : (s.reply v).errCode = s.errCode := rfl
@[simp] theorem State.reply_irqEn (s : State) (v : Word) : (s.reply v).irqEn = s.irqEn := rfl
@[simp] theorem State.reply_irqPend (s : State) (v : Word) : (s.reply v).irqPend = s.irqPend := rfl
@[simp] theorem State.reply_mode (s : State) (v : Word) : (s.reply v).mode = s.mode := rfl
@[simp] theorem State.reply_layout (s : State) (v : Word) : (s.reply v).layout = s.layout := rfl
@[simp] theorem State.reply_tpl (s : State) (v : Word) : (s.reply v).tpl = s.tpl := rfl
@[simp] theorem State.reply_search (s : State) (v : Word) : (s.reply v).search = s.search := rfl
@[simp] theorem State.reply_corrThresh (s : State) (v : Word) : (s.reply v).corrThresh = s.corrThresh := rfl
@[simp] theorem State.reply_zeta (s : State) (v : Word) : (s.reply v).zeta = s.zeta := rfl
@[simp] theorem State.reply_omega (s : State) (v : Word) : (s.reply v).omega = s.omega := rfl
@[simp] theorem State.reply_sampI (s : State) (v : Word) : (s.reply v).sampI = s.sampI := rfl
@[simp] theorem State.reply_sampQ (s : State) (v : Word) : (s.reply v).sampQ = s.sampQ := rfl
@[simp] theorem State.reply_ptI (s : State) (v : Word) : (s.reply v).ptI = s.ptI := rfl
@[simp] theorem State.reply_ptQ (s : State) (v : Word) : (s.reply v).ptQ = s.ptQ := rfl
@[simp] theorem State.reply_result (s : State) (v : Word) : (s.reply v).result = s.result := rfl
@[simp] theorem State.reply_soft (s : State) (v : Word) : (s.reply v).soft = s.soft := rfl
@[simp] theorem State.reply_scr (s : State) (v : Word) : (s.reply v).scr = s.scr := rfl
@[simp] theorem State.reply_sync (s : State) (v : Word) : (s.reply v).sync = s.sync := rfl
@[simp] theorem State.reply_corr (s : State) (v : Word) : (s.reply v).corr = s.corr := rfl
@[simp] theorem State.reply_inbox (s : State) (v : Word) : (s.reply v).inbox = s.inbox := rfl
@[simp] theorem State.reply_replies (s : State) (v : Word) : (s.reply v).replies = v :: s.replies := rfl
@[simp] theorem State.reply_freeCount (s : State) (v : Word) : (s.reply v).freeCount = s.freeCount := rfl

/-! `State.retire` (R311) -/

@[simp] theorem State.retire_cmd (s : State) : (s.retire).cmd = s.cmd := rfl
@[simp] theorem State.retire_pending (s : State) : (s.retire).pending = none := rfl
@[simp] theorem State.retire_err (s : State) : (s.retire).err = s.err := rfl
@[simp] theorem State.retire_errCode (s : State) : (s.retire).errCode = s.errCode := rfl
@[simp] theorem State.retire_irqEn (s : State) : (s.retire).irqEn = s.irqEn := rfl
@[simp] theorem State.retire_irqPend (s : State) : (s.retire).irqPend = s.irqPend := rfl
@[simp] theorem State.retire_mode (s : State) : (s.retire).mode = s.mode := rfl
@[simp] theorem State.retire_layout (s : State) : (s.retire).layout = s.layout := rfl
@[simp] theorem State.retire_tpl (s : State) : (s.retire).tpl = s.tpl := rfl
@[simp] theorem State.retire_search (s : State) : (s.retire).search = s.search := rfl
@[simp] theorem State.retire_corrThresh (s : State) : (s.retire).corrThresh = s.corrThresh := rfl
@[simp] theorem State.retire_zeta (s : State) : (s.retire).zeta = s.zeta := rfl
@[simp] theorem State.retire_omega (s : State) : (s.retire).omega = s.omega := rfl
@[simp] theorem State.retire_sampI (s : State) : (s.retire).sampI = s.sampI := rfl
@[simp] theorem State.retire_sampQ (s : State) : (s.retire).sampQ = s.sampQ := rfl
@[simp] theorem State.retire_ptI (s : State) : (s.retire).ptI = s.ptI := rfl
@[simp] theorem State.retire_ptQ (s : State) : (s.retire).ptQ = s.ptQ := rfl
@[simp] theorem State.retire_result (s : State) : (s.retire).result = s.result := rfl
@[simp] theorem State.retire_soft (s : State) : (s.retire).soft = s.soft := rfl
@[simp] theorem State.retire_scr (s : State) : (s.retire).scr = s.scr := rfl
@[simp] theorem State.retire_sync (s : State) : (s.retire).sync = s.sync := rfl
@[simp] theorem State.retire_corr (s : State) : (s.retire).corr = s.corr := rfl
@[simp] theorem State.retire_inbox (s : State) : (s.retire).inbox = s.inbox := rfl
@[simp] theorem State.retire_replies (s : State) : (s.retire).replies = s.replies := rfl
@[simp] theorem State.retire_freeCount (s : State) : (s.retire).freeCount = s.freeCount := rfl

/-! `State.taken` (R21) -/

@[simp] theorem State.taken_cmd (s : State) : (s.taken).cmd = s.cmd := rfl
@[simp] theorem State.taken_pending (s : State) : (s.taken).pending = s.pending := rfl
@[simp] theorem State.taken_err (s : State) : (s.taken).err = s.err := rfl
@[simp] theorem State.taken_errCode (s : State) : (s.taken).errCode = s.errCode := rfl
@[simp] theorem State.taken_irqEn (s : State) : (s.taken).irqEn = s.irqEn := rfl
@[simp] theorem State.taken_irqPend (s : State) : (s.taken).irqPend = s.irqPend := rfl
@[simp] theorem State.taken_mode (s : State) : (s.taken).mode = s.mode := rfl
@[simp] theorem State.taken_layout (s : State) : (s.taken).layout = s.layout := rfl
@[simp] theorem State.taken_tpl (s : State) : (s.taken).tpl = s.tpl := rfl
@[simp] theorem State.taken_search (s : State) : (s.taken).search = s.search := rfl
@[simp] theorem State.taken_corrThresh (s : State) : (s.taken).corrThresh = s.corrThresh := rfl
@[simp] theorem State.taken_zeta (s : State) : (s.taken).zeta = s.zeta := rfl
@[simp] theorem State.taken_omega (s : State) : (s.taken).omega = s.omega := rfl
@[simp] theorem State.taken_sampI (s : State) : (s.taken).sampI = s.sampI := rfl
@[simp] theorem State.taken_sampQ (s : State) : (s.taken).sampQ = s.sampQ := rfl
@[simp] theorem State.taken_ptI (s : State) : (s.taken).ptI = s.ptI := rfl
@[simp] theorem State.taken_ptQ (s : State) : (s.taken).ptQ = s.ptQ := rfl
@[simp] theorem State.taken_result (s : State) : (s.taken).result = s.result := rfl
@[simp] theorem State.taken_soft (s : State) : (s.taken).soft = s.soft := rfl
@[simp] theorem State.taken_scr (s : State) : (s.taken).scr = s.scr := rfl
@[simp] theorem State.taken_sync (s : State) : (s.taken).sync = s.sync := rfl
@[simp] theorem State.taken_corr (s : State) : (s.taken).corr = s.corr := rfl
@[simp] theorem State.taken_inbox (s : State) : (s.taken).inbox = s.inbox.tail := rfl
@[simp] theorem State.taken_replies (s : State) : (s.taken).replies = s.replies := rfl
@[simp] theorem State.taken_freeCount (s : State) : (s.taken).freeCount = s.freeCount := rfl

/-! `State.writeEncoded` (R174) -/

@[simp] theorem State.writeEncoded_cmd (s : State) (d t : Nat) : (s.writeEncoded d t).cmd = s.cmd := rfl
@[simp] theorem State.writeEncoded_pending (s : State) (d t : Nat) :
    (s.writeEncoded d t).pending = s.pending := rfl
@[simp] theorem State.writeEncoded_err (s : State) (d t : Nat) : (s.writeEncoded d t).err = s.err := rfl
@[simp] theorem State.writeEncoded_errCode (s : State) (d t : Nat) :
    (s.writeEncoded d t).errCode = s.errCode := rfl
@[simp] theorem State.writeEncoded_irqEn (s : State) (d t : Nat) : (s.writeEncoded d t).irqEn = s.irqEn := rfl
@[simp] theorem State.writeEncoded_irqPend (s : State) (d t : Nat) :
    (s.writeEncoded d t).irqPend = s.irqPend := rfl
@[simp] theorem State.writeEncoded_mode (s : State) (d t : Nat) : (s.writeEncoded d t).mode = s.mode := rfl
@[simp] theorem State.writeEncoded_layout (s : State) (d t : Nat) :
    (s.writeEncoded d t).layout = s.layout := rfl
@[simp] theorem State.writeEncoded_tpl (s : State) (d t : Nat) : (s.writeEncoded d t).tpl = s.tpl := rfl
@[simp] theorem State.writeEncoded_search (s : State) (d t : Nat) :
    (s.writeEncoded d t).search = s.search := rfl
@[simp] theorem State.writeEncoded_corrThresh (s : State) (d t : Nat) :
    (s.writeEncoded d t).corrThresh = s.corrThresh := rfl
@[simp] theorem State.writeEncoded_zeta (s : State) (d t : Nat) : (s.writeEncoded d t).zeta = s.zeta := rfl
@[simp] theorem State.writeEncoded_omega (s : State) (d t : Nat) : (s.writeEncoded d t).omega = s.omega := rfl
@[simp] theorem State.writeEncoded_sampI (s : State) (d t : Nat) : (s.writeEncoded d t).sampI = s.sampI := rfl
@[simp] theorem State.writeEncoded_sampQ (s : State) (d t : Nat) : (s.writeEncoded d t).sampQ = s.sampQ := rfl
@[simp] theorem State.writeEncoded_ptI (s : State) (d t : Nat) :
    (s.writeEncoded d t).ptI = (constellation s.order (mapIndex s.order d t)).i := rfl
@[simp] theorem State.writeEncoded_ptQ (s : State) (d t : Nat) :
    (s.writeEncoded d t).ptQ = (constellation s.order (mapIndex s.order d t)).q := rfl
@[simp] theorem State.writeEncoded_result (s : State) (d t : Nat) :
    (s.writeEncoded d t).result = resultWord d (mapIndex s.order d t) t 0 := rfl
@[simp] theorem State.writeEncoded_soft (s : State) (d t : Nat) : (s.writeEncoded d t).soft = s.soft := rfl
@[simp] theorem State.writeEncoded_scr (s : State) (d t : Nat) : (s.writeEncoded d t).scr = s.scr := rfl
@[simp] theorem State.writeEncoded_sync (s : State) (d t : Nat) : (s.writeEncoded d t).sync = s.sync := rfl
@[simp] theorem State.writeEncoded_corr (s : State) (d t : Nat) : (s.writeEncoded d t).corr = s.corr := rfl
@[simp] theorem State.writeEncoded_inbox (s : State) (d t : Nat) : (s.writeEncoded d t).inbox = s.inbox := rfl
@[simp] theorem State.writeEncoded_replies (s : State) (d t : Nat) :
    (s.writeEncoded d t).replies = s.replies := rfl
@[simp] theorem State.writeEncoded_freeCount (s : State) (d t : Nat) :
    (s.writeEncoded d t).freeCount = s.freeCount := rfl

/-! `State.writeDecoded` (R175) -/

@[simp] theorem State.writeDecoded_cmd (s : State) (t : Nat) : (s.writeDecoded t).cmd = s.cmd := rfl
@[simp] theorem State.writeDecoded_pending (s : State) (t : Nat) :
    (s.writeDecoded t).pending = s.pending := rfl
@[simp] theorem State.writeDecoded_err (s : State) (t : Nat) : (s.writeDecoded t).err = s.err := rfl
@[simp] theorem State.writeDecoded_errCode (s : State) (t : Nat) :
    (s.writeDecoded t).errCode = s.errCode := rfl
@[simp] theorem State.writeDecoded_irqEn (s : State) (t : Nat) : (s.writeDecoded t).irqEn = s.irqEn := rfl
@[simp] theorem State.writeDecoded_irqPend (s : State) (t : Nat) :
    (s.writeDecoded t).irqPend = s.irqPend := rfl
@[simp] theorem State.writeDecoded_mode (s : State) (t : Nat) : (s.writeDecoded t).mode = s.mode := rfl
@[simp] theorem State.writeDecoded_layout (s : State) (t : Nat) : (s.writeDecoded t).layout = s.layout := rfl
@[simp] theorem State.writeDecoded_tpl (s : State) (t : Nat) : (s.writeDecoded t).tpl = s.tpl := rfl
@[simp] theorem State.writeDecoded_search (s : State) (t : Nat) : (s.writeDecoded t).search = s.search := rfl
@[simp] theorem State.writeDecoded_corrThresh (s : State) (t : Nat) :
    (s.writeDecoded t).corrThresh = s.corrThresh := rfl
@[simp] theorem State.writeDecoded_zeta (s : State) (t : Nat) : (s.writeDecoded t).zeta = s.zeta := rfl
@[simp] theorem State.writeDecoded_omega (s : State) (t : Nat) : (s.writeDecoded t).omega = s.omega := rfl
@[simp] theorem State.writeDecoded_sampI (s : State) (t : Nat) : (s.writeDecoded t).sampI = s.sampI := rfl
@[simp] theorem State.writeDecoded_sampQ (s : State) (t : Nat) : (s.writeDecoded t).sampQ = s.sampQ := rfl
@[simp] theorem State.writeDecoded_ptI (s : State) (t : Nat) : (s.writeDecoded t).ptI = s.ptI := rfl
@[simp] theorem State.writeDecoded_ptQ (s : State) (t : Nat) : (s.writeDecoded t).ptQ = s.ptQ := rfl
@[simp] theorem State.writeDecoded_result (s : State) (t : Nat) :
    (s.writeDecoded t).result = resultWord (grayInv s.order (decodeSearch s.order s.point t).jbest)
      (((decodeSearch s.order s.point t).jbest + t) % s.order) t 0 := rfl
@[simp] theorem State.writeDecoded_soft (s : State) (t : Nat) :
    (s.writeDecoded t).soft = (decodeSearch s.order s.point t).score.getD fzero := rfl
@[simp] theorem State.writeDecoded_scr (s : State) (t : Nat) : (s.writeDecoded t).scr = s.scr := rfl
@[simp] theorem State.writeDecoded_sync (s : State) (t : Nat) : (s.writeDecoded t).sync = s.sync := rfl
@[simp] theorem State.writeDecoded_corr (s : State) (t : Nat) : (s.writeDecoded t).corr = s.corr := rfl
@[simp] theorem State.writeDecoded_inbox (s : State) (t : Nat) : (s.writeDecoded t).inbox = s.inbox := rfl
@[simp] theorem State.writeDecoded_replies (s : State) (t : Nat) :
    (s.writeDecoded t).replies = s.replies := rfl
@[simp] theorem State.writeDecoded_freeCount (s : State) (t : Nat) :
    (s.writeDecoded t).freeCount = s.freeCount := rfl

end Sys2Proof.Machine
end

