-- ==== Sys2Proof/Laws/Ops.lean ====
section
/-! SUPPORT. One lemma per shared operation that says everything it can do; later proofs cite it and do not
unfold the operation. -/

namespace Sys2Proof.Machine

/-! ### Operands -/

theorem order_eight_or_four (s : State) : s.order = 8 ∨ s.order = 4 := by
  unfold State.order; split <;> simp

theorem order_pos (s : State) : 0 < s.order := by
  rcases order_eight_or_four s with h | h <;> omega

/-- RESULT's word is the sum of its fields at their places, where each fits (R44). -/
theorem resultWord_eq_sum (t i st c : Nat) (ht : t < 8) (hi : i < 8) (hs : st < 8) (hc : c < 2) :
    resultWord t i st c = BitVec.ofNat 32 (t + 16 * i + 256 * st + 4096 * c) := by
  unfold resultWord pack
  simp only [List.foldr]
  congr 1
  omega

/-- RESULT's word as a number, for any field values: each field is taken modulo its width. -/
theorem resultWord_toNat (t i st c : Nat) :
    (resultWord t i st c).toNat = t % 8 + 16 * (i % 8) + 256 * (st % 8) + 4096 * (c % 2) := by
  unfold resultWord pack
  simp only [List.foldr, BitVec.toNat_ofNat]
  omega

/-! ### Errors and events (R402, R410) -/

theorem raiseError_eq_next (c : ErrorCode) (s : State) : raiseError c s = .next (s.recordError c) := rfl

/-- Setting event bits clears none. -/
theorem irqPend_or_keeps (p q : BitVec 4) : p &&& (p ||| q) = p := by
  ext i hi
  simp only [BitVec.getElem_and, BitVec.getElem_or]
  cases p[i] <;> cases q[i] <;> rfl

theorem recordError_keeps_events (s : State) (c : ErrorCode) :
    s.irqPend &&& (s.recordError c).irqPend = s.irqPend := irqPend_or_keeps _ _

theorem raiseEvent_keeps_events (s : State) (b : Bool) (ev : BitVec 4) :
    s.irqPend &&& (s.raiseEvent b ev).irqPend = s.irqPend := by
  simp only [State.raiseEvent_irqPend]
  split
  · exact irqPend_or_keeps _ _
  · exact BitVec.and_self

/-! ### The window (R273) -/

/-- What `corr_append` does: append below capacity, slide by one at it. -/
theorem corrAppend_cases (c : Correlator) (x : Cplx) :
    (c.win.length < 4096 ∧ corrAppend c x = { c with win := c.win ++ [x] }) ∨
    (4096 ≤ c.win.length ∧
      corrAppend c x = { c with win := c.win.tail ++ [x], winBase := c.winBase + 1 }) := by
  unfold corrAppend Correlator.winCount Config.winSize
  split
  · exact .inl ⟨‹_›, rfl⟩
  · exact .inr ⟨not_lt.1 ‹_›, rfl⟩

/-- Appending keeps the window's canonical form. -/
theorem corrAppend_wf (c : Correlator) (x : Cplx) (h : c.wf = true) : (corrAppend c x).wf = true := by
  have hl : c.win.length ≤ 4096 := of_decide_eq_true h
  refine decide_eq_true (p := (corrAppend c x).win.length ≤ 4096) ?_
  rcases corrAppend_cases c x with ⟨hs, he⟩ | ⟨hs, he⟩ <;>
    (rw [he]; simp only [List.length_append, List.length_tail, List.length_singleton]; omega)

theorem corrReset_wf (c : Correlator) : (corrReset c).wf = true := rfl

theorem reset_window_wf : State.reset.corr.wf = true := rfl

/-! ### The loop filter's clamp (R236) -/

/-- What a clamp gives: the value itself, or one of the limits and a report. -/
theorem clampSym_cases (lim x : F32) :
    (fgt x lim = false ∧ flt x (fneg lim) = false ∧ clampSym lim x = (x, false)) ∨
    (clampSym lim x = (lim, true)) ∨ (clampSym lim x = (fneg lim, true)) := by
  unfold clampSym
  cases h1 : fgt x lim <;> simp
  · cases h2 : flt x (fneg lim) <;> simp
  · cases h2 : flt lim (fneg lim) <;> simp

/-! ### The scrambler (R143, R147) -/

theorem scrNext_tribit_lt (c : Scrambler) : (scrNext c).2 < 8 := by
  unfold scrNext; dsimp only; omega

/-- What one `next()` does to the scrambler: reload after the 160th, else one position on. -/
theorem scrNext_cases (c : Scrambler) :
    (c.pos = 159 ∧ (scrNext c).1 = loadedScrambler) ∨
    (c.pos ≠ 159 ∧ (scrNext c).1 = ⟨scrClocks 8 c.reg, c.pos + 1⟩) := by
  unfold scrNext Config.scrPeriod Config.scrClk
  dsimp only
  split
  · exact .inl ⟨‹_›, rfl⟩
  · exact .inr ⟨‹_›, rfl⟩

theorem scrAdvance_succ (n : Nat) (p : Scrambler × Nat) :
    scrAdvance (n + 1) p = scrAdvance n (scrNext p.1) := rfl

theorem scrS_lt (k : Nat) : scrS k < 8 := by
  have h : ∀ j : Fin 160, scrRom.getD j.val 0 < 8 := by decide +kernel
  exact h ⟨k % 160, Nat.mod_lt _ (by omega)⟩

/-! ### The synchronizer's push (R228) -/

/-- What a push does: fill, strobe, or decrement. -/
theorem pushSample_cases (y : Synchronizer) (x : Cplx) :
    (y.fill < 4 ∧ pushSample y x =
      ⟨{ y with symValid := false, hist := shiftIn y.hist x, fill := y.fill + 1 }, false, false⟩) ∨
    (4 ≤ y.fill ∧ flt y.nco (fadd y.w y.v) = true ∧ pushSample y x =
      strobe { y with symValid := false, hist := shiftIn y.hist x } (fadd y.w y.v)) ∨
    (4 ≤ y.fill ∧ flt y.nco (fadd y.w y.v) = false ∧ pushSample y x =
      ⟨{ y with symValid := false, hist := shiftIn y.hist x, nco := fsub y.nco (fadd y.w y.v) },
        false, false⟩) := by
  unfold pushSample Config.histLen
  dsimp only
  by_cases hf : y.fill < 4
  · rw [if_pos hf]; exact .inl ⟨hf, rfl⟩
  · rw [if_neg hf]
    refine .inr ?_
    by_cases h : flt y.nco (fadd y.w y.v) = true
    · rw [if_pos h]; exact .inl ⟨not_lt.1 hf, h, rfl⟩
    · rw [if_neg h]; exact .inr ⟨not_lt.1 hf, Bool.eq_false_iff.2 h, rfl⟩

/-- No push changes the gains, CFG_VALID or W, or clears DIVERGED. -/
theorem pushSample_frame (y : Synchronizer) (x : Cplx) :
    (pushSample y x).sync.w = y.w ∧ (pushSample y x).sync.cfgValid = y.cfgValid ∧
    (pushSample y x).sync.alpha = y.alpha ∧ (pushSample y x).sync.beta = y.beta ∧
    (y.diverged = true → (pushSample y x).sync.diverged = true) := by
  rcases pushSample_cases y x with ⟨_, h⟩ | ⟨_, _, h⟩ | ⟨_, _, h⟩
  · rw [h]; simp
  · rw [h]
    unfold strobe
    dsimp only
    split
    · simp [ontimeStrobe, loopUpdate, emit]
      intro hd
      simp [hd]
    · simp [midpointStrobe]
  · rw [h]; simp

/-! ### The resets (R225, R271) -/

theorem syncReset_frame (y : Synchronizer) :
    (syncReset y).alpha = y.alpha ∧ (syncReset y).beta = y.beta ∧ (syncReset y).cfgValid = y.cfgValid ∧
    (syncReset y).w = y.w ∧ (syncReset y).diverged = y.diverged := ⟨rfl, rfl, rfl, rfl, rfl⟩

end Sys2Proof.Machine
end

