-- ==== Sys2Proof/Laws/PerInstr.lean ====
section
/-! SUPPORT. Statements about every command as syntax, one lemma per constructor. -/

namespace Sys2Proof.Laws.OpField

/-- The OP field of a well-formed command's word is its row's OP (R111, R121). -/
def Statement (i : Instr) : Prop := i.wellFormed = true → Machine.bits (encode i) 31 24 = opOf i

/-- A command without operands: the OP field of its word, by computation. -/
theorem of_no_operand (i : Instr) (h : Machine.bits (encode i) 31 24 = opOf i) : Statement i := fun _ => h

/-- A word with OP in [31:24] and operand bits below 2^24 reads its OP back. -/
theorem bits_op (op operands : Nat) (ho : op < 256) (h : operands < 2 ^ 24) :
    Machine.bits (BitVec.ofNat 32 (op * 2 ^ 24 + operands)) 31 24 = op := by
  unfold Machine.bits
  rw [BitVec.toNat_ofNat]
  omega

theorem nop : Statement .nop := of_no_operand _ (by decide)
theorem softReset : Statement .softReset := of_no_operand _ (by decide)
theorem scrReset : Statement .scrReset := of_no_operand _ (by decide)
theorem scrNext : Statement .scrNext := of_no_operand _ (by decide)
theorem scrAdvance (count : Nat) : Statement (.scrAdvance count) := fun h =>
  bits_op 0x12 count (by decide) (by simp only [Instr.wellFormed, imm16Fits, decide_eq_true_eq] at h; omega)
theorem mapEnc (d s : Nat) : Statement (.mapEnc d s) := fun h =>
  bits_op 0x20 (s * 16 + d) (by decide)
    (by simp only [Instr.wellFormed, tribitFits, Bool.and_eq_true, decide_eq_true_eq] at h; omega)
theorem mapDec (s : Nat) : Statement (.mapDec s) := fun h =>
  bits_op 0x21 (s * 16) (by decide) (by simp only [Instr.wellFormed, tribitFits, decide_eq_true_eq] at h; omega)
theorem txSym (d : Nat) : Statement (.txSym d) := fun h =>
  bits_op 0x22 d (by decide) (by simp only [Instr.wellFormed, tribitFits, decide_eq_true_eq] at h; omega)
theorem rxSym : Statement .rxSym := of_no_operand _ (by decide)
theorem layoutClass (pos : Nat) : Statement (.layoutClass pos) := fun h =>
  bits_op 0x28 pos (by decide) (by simp only [Instr.wellFormed, imm16Fits, decide_eq_true_eq] at h; omega)
theorem syncCfg : Statement .syncCfg := of_no_operand _ (by decide)
theorem syncReset : Statement .syncReset := of_no_operand _ (by decide)
theorem syncPush : Statement .syncPush := of_no_operand _ (by decide)
theorem corrReset : Statement .corrReset := of_no_operand _ (by decide)
theorem corrPush : Statement .corrPush := of_no_operand _ (by decide)
theorem corrSweep : Statement .corrSweep := of_no_operand _ (by decide)

end Sys2Proof.Laws.OpField
end

