-- ==== Sys2Proof/Laws/Search.lean ====
section
/-! SUPPORT. The search of R278 and R280 over candidates 0 to n-1, and the candidate search of R175 as the
same search. -/

namespace Sys2Proof.Machine

/-- One more candidate is one more fold step. -/
theorem sweepSearch_succ (cf : Nat → F32) (n : Nat) :
    sweepSearch cf (n + 1) = sweepCandidate cf (sweepSearch cf n) n := by
  unfold sweepSearch
  rw [List.range_succ, List.foldl_append]
  rfl

theorem sweepSearch_zero (cf : Nat → F32) : sweepSearch cf 0 = ⟨none, 0⟩ := rfl

/-- What a search over at least one candidate gives: the first candidate that none exceeds, also where some
of the values are NaNs. -/
theorem sweepSearch_spec (cf : Nat → F32) (n : Nat) :
    ∃ tau, tau < n + 1 ∧ sweepSearch cf (n + 1) = ⟨some (cf tau), tau⟩ ∧
      (∀ k, k < n + 1 → fgt (cf k) (cf tau) = false) ∧ (∀ k, k < tau → fge (cf k) (cf tau) = false) := by
  induction n with
  | zero =>
    refine ⟨0, Nat.zero_lt_one, rfl, fun k hk => ?_, fun k hk => absurd hk (Nat.not_lt_zero k)⟩
    rw [Nat.lt_one_iff.1 hk]
    exact flt_irrefl _
  | succ n ih =>
    obtain ⟨tau, hlt, heq, hmax, hfirst⟩ := ih
    rw [sweepSearch_succ, heq]
    by_cases h : fgt (cf (n + 1)) (cf tau) = true
    · refine ⟨n + 1, Nat.lt_succ_self _, by simp [sweepCandidate, h], fun k hk => ?_, fun k hk => ?_⟩
      · rcases Nat.lt_or_ge k (n + 1) with hk' | hk'
        · exact fgt_false_of_fge_false _ _ (fge_false_of_not_fgt _ _ _ (hmax k hk') h)
        · rw [show k = n + 1 by omega]; exact flt_irrefl _
      · exact fge_false_of_not_fgt _ _ _ (hmax k hk) h
    · refine ⟨tau, by omega, by simp [sweepCandidate, h], fun k hk => ?_, hfirst⟩
      rcases Nat.lt_or_ge k (n + 1) with hk' | hk'
      · exact hmax k hk'
      · rw [show k = n + 1 by omega]; exact Bool.eq_false_iff.2 h

/-- The candidate search of `map_decode` is the same search over the scores of its candidates. -/
theorem decodeSearch_eq (n : Nat) (p : Cplx) (s m : Nat) :
    let b := sweepSearch (fun j => reDot p (constellation n ((j + s) % n))) m
    (List.range m).foldl (decodeCandidate n p s) ⟨none, 0⟩ = ⟨b.best, b.tbest⟩ := by
  induction m with
  | zero => rfl
  | succ m ih =>
    dsimp only at ih ⊢
    rw [List.range_succ, List.foldl_append, ih, sweepSearch_succ]
    generalize sweepSearch (fun j => reDot p (constellation n ((j + s) % n))) m = b
    obtain ⟨best, tb⟩ := b
    cases best with
    | none => rfl
    | some x =>
      simp only [List.foldl_cons, List.foldl_nil, decodeCandidate, sweepCandidate]
      split <;> rfl

end Sys2Proof.Machine
end

