-- ==== Sys2Proof/Laws/Step.lean ====
section
/-! SUPPORT. What the bus, a completion and a step can do, said once. -/

namespace Sys2Proof.Machine

/-- An access passes the bus checks exactly where it is 32 bits wide, in the window and aligned (R80, R82,
R83). -/
theorem busCheck_none_iff (width : AccessWidth) (off : Nat) :
    busCheck width off = none ↔ width = .w32 ∧ off < 256 ∧ off % 4 = 0 := by
  unfold busCheck Config.mapBytes
  constructor
  · intro h
    split at h
    · cases h
    · split at h
      · cases h
      · split at h
        · cases h
        · rename_i h1 h2 h3
          exact ⟨by simpa using h2, not_le.1 h1, by simpa using h3⟩
  · rintro ⟨rfl, h1, h2⟩
    simp [not_le.2 h1, h2]

/-- Where a bus check fails, the answer is no next state. -/
theorem busCheck_some_stops (width : AccessWidth) (off : Nat) (r : Result) (t : State)
    (h : busCheck width off = some r) : r ≠ .next t := by
  unfold busCheck at h
  repeat' split at h
  all_goals cases h
  all_goals simp

/-- What a host read can answer (R324, R466). -/
theorem hostRead_cases (width : AccessWidth) (off : Nat) (s t : State) (h : hostRead width off s = .next t) :
    (width = .w32 ∧ off < 256 ∧ off % 4 = 0) ∧
    ((s.busy = true ∧ regAt off ≠ some .status ∧
        t = { s.reply (Config.freeRead s.freeCount) with freeCount := s.freeCount + 1 }) ∨
      ((s.busy = false ∨ regAt off = some .status) ∧ t = s.reply (readSlot off s))) := by
  unfold hostRead at h
  cases hb : busCheck width off with
  | some r => rw [hb] at h; exact absurd h (busCheck_some_stops width off r t hb)
  | none =>
    rw [hb] at h
    refine ⟨(busCheck_none_iff width off).1 hb, ?_⟩
    dsimp only at h
    split at h
    · rename_i hc
      simp only [Bool.and_eq_true, bne_iff_ne] at hc
      cases h
      exact .inl ⟨hc.1, hc.2, rfl⟩
    · rename_i hc
      simp only [Bool.and_eq_true, bne_iff_ne, not_and, not_not] at hc
      cases h
      refine .inr ⟨?_, rfl⟩
      cases hbusy : s.busy
      · exact .inl rfl
      · exact .inr (hc hbusy)

/-- What a host write can answer (R314, R465). -/
theorem hostWrite_cases (width : AccessWidth) (off : Nat) (v : Word) (s t : State)
    (h : hostWrite width off v s = .next t) :
    (width = .w32 ∧ off < 256 ∧ off % 4 = 0) ∧
    ((s.busy = true ∧ t = s.recordError .busyAccess) ∨
      (s.busy = false ∧ ∃ r, regAt off = some r ∧ t = writeReg r v s) ∨
      (s.busy = false ∧ regAt off = none ∧ t = s)) := by
  unfold hostWrite at h
  cases hb : busCheck width off with
  | some r => rw [hb] at h; exact absurd h (busCheck_some_stops width off r t hb)
  | none =>
    rw [hb] at h
    refine ⟨(busCheck_none_iff width off).1 hb, ?_⟩
    simp only [Host.Outcome.next.injEq] at h
    subst h
    unfold writeSlot
    cases hbusy : s.busy
    · refine .inr ?_
      cases hr : regAt off with
      | none => exact .inr ⟨rfl, rfl, rfl⟩
      | some r => exact .inl ⟨rfl, r, rfl, rfl⟩
    · exact .inl ⟨rfl, rfl⟩

/-- What a completion can answer (R311, R405). -/
theorem complete_cases (s t : State) (h : complete s = .next t) :
    (s.pending = none ∧ t = s) ∨
    (∃ w, s.pending = some w ∧
      ((∃ e, decode w = .error e ∧ t = s.retire.recordError .illegalCmd) ∨
        (∃ i, decode w = .ok i ∧ exec i s.retire = .next t))) := by
  unfold complete at h
  split at h
  · rename_i hp
    cases h
    exact .inl ⟨hp, rfl⟩
  · rename_i w hp
    refine .inr ⟨w, hp, ?_⟩
    split at h
    · rename_i i hd
      exact .inr ⟨i, hd, h⟩
    · rename_i e hd
      simp only [raiseError_eq_next, Host.Outcome.next.injEq] at h
      exact .inl ⟨e, hd, h.symm⟩

/-- What a step can be: a completion, a reset, a read or a write. -/
theorem step_cases (s t : State) (h : step s = .next t) :
    (s.inbox = [] ∧ complete s = .next t) ∨
    (s.inbox.head? = some .complete ∧ complete s.taken = .next t) ∨
    (s.inbox.head? = some .rst ∧ t = s.taken.hardReset) ∨
    (∃ width off, s.inbox.head? = some (.read width off) ∧ hostRead width off s.taken = .next t) ∨
    (∃ width off v, s.inbox.head? = some (.write width off v) ∧ hostWrite width off v s.taken = .next t) := by
  unfold step nextStep at h
  split at h
  · rename_i hi
    exact .inl ⟨hi, h⟩
  · rename_i ev r hi
    rw [hi]
    refine .inr ?_
    cases ev with
    | complete => exact .inl ⟨rfl, h⟩
    | rst =>
      simp only [handleEvent, Host.Outcome.next.injEq] at h
      exact .inr (.inl ⟨rfl, h.symm⟩)
    | read width off => exact .inr (.inr (.inl ⟨width, off, rfl, h⟩))
    | write width off v => exact .inr (.inr (.inr ⟨width, off, v, rfl, h⟩))

/-- What the MODE write does (R318). -/
theorem modeWrite_cases (v : Word) (s : State) :
    ((bits v 15 8 < 4 ∨ 64 < bits v 15 8) ∧ modeWrite v s = s.recordError .modeInvalid) ∨
    (4 ≤ bits v 15 8 ∧ bits v 15 8 ≤ 64 ∧
      modeWrite v s = { s with mode := v &&& 0x0000FF01 }.modeChanged) := by
  unfold modeWrite
  split
  · exact .inl ⟨‹_›, rfl⟩
  · rename_i h
    rw [not_or] at h
    exact .inr ⟨not_lt.1 h.1, not_lt.1 h.2, rfl⟩

/-- What the LAYOUT write does (R318). -/
theorem layoutWrite_cases (v : Word) (s : State) :
    ((bits v 7 0 + bits v 15 8 < 1 ∨ bits v 23 16 < 1) ∧ layoutWrite v s = s.recordError .modeInvalid) ∨
    (1 ≤ bits v 7 0 + bits v 15 8 ∧ 1 ≤ bits v 23 16 ∧
      layoutWrite v s = { s with layout := v &&& 0x00FFFFFF }.modeChanged) := by
  unfold layoutWrite
  split
  · exact .inl ⟨‹_›, rfl⟩
  · rename_i h
    rw [not_or] at h
    exact .inr ⟨not_lt.1 h.1, not_lt.1 h.2, rfl⟩

/-- What the TPL write does (R319). -/
theorem tplWrite_cases (v : Word) (s : State) :
    ((bits v 24 16 < 1 ∨ 256 < bits v 24 16) ∧ tplWrite v s = s.recordError .argRange) ∨
    (1 ≤ bits v 24 16 ∧ bits v 24 16 ≤ 256 ∧ tplWrite v s = { s with tpl := v &&& 0x01FFFFFF }) := by
  unfold tplWrite Config.tplMax
  split
  · exact .inl ⟨‹_›, rfl⟩
  · rename_i h
    rw [not_or] at h
    exact .inr ⟨not_lt.1 h.1, not_lt.1 h.2, rfl⟩

/-- What the SEARCH write does (R320). -/
theorem searchWrite_cases (v : Word) (s : State) :
    ((bits v 12 0 < 1 ∨ 4096 < bits v 12 0) ∧ searchWrite v s = s.recordError .argRange) ∨
    (1 ≤ bits v 12 0 ∧ bits v 12 0 ≤ 4096 ∧
      searchWrite v s = { s with search := BitVec.ofNat 32 (bits v 12 0) }) := by
  unfold searchWrite Config.searchMax
  split
  · exact .inl ⟨‹_›, rfl⟩
  · rename_i h
    rw [not_or] at h
    exact .inr ⟨not_lt.1 h.1, not_lt.1 h.2, rfl⟩

/-- What the CORR_THRESH write does (R321). -/
theorem threshWrite_cases (v : Word) (s : State) :
    (validThresh v = false ∧ threshWrite v s = s.recordError .argRange) ∨
    (validThresh v = true ∧ threshWrite v s = { s with corrThresh := v }) := by
  unfold threshWrite
  cases h : validThresh v
  · exact .inl ⟨rfl, rfl⟩
  · exact .inr ⟨rfl, rfl⟩

end Sys2Proof.Machine
end

