-- ==== Sys2Proof/Laws/Template.lean ====
section
/-! SUPPORT. The template of R275 as a plain list, and the three running sums of R277 as three sums. -/

namespace Sys2Proof.Machine

theorem scrS_mod (n : Nat) : scrS (n % 160) = scrS n := by
  unfold scrS Config.scrPeriod
  rw [Nat.mod_mod]

/-- The index of a probe is its scrambler tribit modulo N (R202): the Gray map of 0 is 0. -/
theorem probeIndex_eq (s : State) (pos : Nat) : probeIndex s.order pos = scrS pos % s.order := by
  have h : gray s.order 0 = 0 := by rcases order_eight_or_four s with h | h <;> rw [h] <;> decide
  rw [probeIndex, probeStrib, h, Nat.zero_add]

/-- A template slot has an entry exactly at a PROBE position, and then the probe's point (R275). -/
theorem templateSlot_eq (s : State) (k : Nat) :
    s.templateSlot k =
      if s.isProbe ((s.tplStart + k) % s.sfLen) then
        some ⟨k, constellation s.order (scrS ((s.tplStart + k) % s.sfLen) % s.order)⟩
      else none := by
  unfold State.templateSlot State.expected
  rw [probeIndex_eq]
  split <;> rfl

/-- The template is the list of its PROBE slots with their points (R275). -/
theorem template_eq (s : State) :
    s.template = ((List.range s.tplLen).filter (fun k => s.isProbe ((s.tplStart + k) % s.sfLen))).map
      (fun k => ⟨k, constellation s.order (scrS ((s.tplStart + k) % s.sfLen) % s.order)⟩) := by
  unfold State.template
  induction List.range s.tplLen with
  | nil => rfl
  | cons k ks ih =>
    rw [List.filterMap_cons, List.filter_cons, templateSlot_eq, ih]
    cases s.isProbe ((s.tplStart + k) % s.sfLen) <;> rfl

/-- The sums of `conf(τ)` are three sums, one a component (R277). -/
theorem foldl_addEntry (c : Correlator) (sps tau : Nat) (ts : List TemplateEntry) (a : CorrSums) :
    ts.foldl (addEntry c sps tau) a =
      ⟨ts.foldl (fun x t => fadd x (reDot (matched c sps tau t.k) t.t)) a.are,
       ts.foldl (fun x t => fadd x (imCross (matched c sps tau t.k) t.t)) a.aim,
       ts.foldl (fun x t => fadd x (energy (matched c sps tau t.k))) a.er⟩ := by
  induction ts generalizing a with
  | nil => rfl
  | cons t ts ih => rw [List.foldl_cons, ih]; rfl

end Sys2Proof.Machine
end

