-- ==== Sys2Proof/Laws/Value.lean ====
section
/-! SUPPORT. The real value of an f32 by its bit fields is the integer the arithmetic computes on, in units of
2^-149. -/

namespace Sys2Proof.Safety

open Sys2Proof.Machine

/-- The sign bit of R81 is the one the arithmetic reads. -/
theorem negative_eq_signBit (a : F32) : negative a = signBit a := by
  unfold negative signBit
  rw [BitVec.getLsbD, Nat.testBit_eq_decide_div_mod_eq]
  have := a.isLt
  exact decide_eq_decide.2 (by omega)

/-- The magnitude of a finite number, in units of 2^-149. -/
theorem magnitude_eq_scaled (a : F32) : magnitude a = (scaled a : ℝ) / 2 ^ 149 := by
  have he : magBits a / 2 ^ 23 = a.toNat / 2 ^ 23 % 256 := by unfold magBits; omega
  have hf : magBits a % 2 ^ 23 = a.toNat % 2 ^ 23 := by unfold magBits; omega
  unfold magnitude scaled
  dsimp only
  rw [he, hf]
  split
  · rfl
  · rename_i h
    obtain ⟨e, hp⟩ : ∃ e, a.toNat / 2 ^ 23 % 256 = e + 1 := ⟨a.toNat / 2 ^ 23 % 256 - 1, by omega⟩
    rw [hp, Nat.add_sub_cancel]
    push_cast
    ring

/-- The value of a finite number, in units of 2^-149. -/
theorem value_eq_scaledInt (a : F32) : value a = (scaledInt a : ℝ) / 2 ^ 149 := by
  unfold value scaledInt
  rw [negative_eq_signBit, magnitude_eq_scaled]
  split <;> push_cast <;> ring

end Sys2Proof.Safety
end

