-- ==== Sys2Proof/Tests/Slice0.lean ====
section
/-! SUPPORT. The model's own tests: what WellFormed refuses, each command's word written out bit by bit, one
step of each command against the numbers of spec/95_test_vectors.md, and a witness for each statement that
has hypotheses. -/

namespace Sys2Proof.Tests

open Sys2Proof Sys2Proof.Machine Sys2Proof.Safety

set_option Elab.async false

/-! ### Helpers -/

/-- The result is a next state with the property. -/
def nextHas (p : State → Bool) : Result → Bool
  | .next t => p t
  | .fault _ => false
  | .refused _ => false

theorem nextHas_exists (p : State → Bool) (r : Result) (h : nextHas p r = true) :
    ∃ t, r = .next t ∧ p t = true := by
  cases r with
  | next t => exact ⟨t, rfl, h⟩
  | fault _ => cases h
  | refused _ => cases h

/-- Reset, with the word in flight and its completion next. -/
def inFlight (w : Word) : State := { State.reset with cmd := w, pending := some w, inbox := [.complete] }

/-- The state with one host write to come. -/
def writing (s : State) (off : Nat) (v : Word) : State := { s with inbox := [.write .w32 off v] }

/-- Reset, then MODE = 0x401: N = 4, SPS = 4. -/
def four : State := { State.reset with mode := 0x00000401 }

/-- Reset, then the point (i, q). -/
def atPoint (i q : F32) : State := { State.reset with ptI := i, ptQ := q }

/-- Reset, then `sync.cfg` with ZETA = 0x3F350481 and OMEGA = 0x3CA3D70A (the example of R222). -/
def configured : State :=
  { State.reset with
    zeta := 0x3F350481, omega := 0x3CA3D70A
    sync := { State.reset.sync with alpha := 0x3D613DE0, beta := 0x3ACBDE13, cfgValid := true } }

/-- Trace A of V-Y3 before its fifth push. -/
def traceA : State :=
  { configured with
    sampI := 0x3F800000, sampQ := 0x3F800000
    sync := { configured.sync with
      fill := 4
      hist := ⟨⟨0xBF800000, 0xBF800000⟩, ⟨0xBF800000, 0xBF800000⟩,
        ⟨0x3F800000, 0x3F800000⟩, ⟨0x3F800000, 0x3F800000⟩⟩ } }

/-- Trace D of V-Y6 before its ninth push: samples 25·n, the loop at its second symbol. -/
def traceD : State :=
  { configured with
    sampI := 0x43480000
    sync := { configured.sync with
      fill := 4
      hist := ⟨⟨0x432F0000, 0⟩, ⟨0x43160000, 0⟩, ⟨0x42FA0000, 0⟩, ⟨0x42C80000, 0⟩⟩
      ymid := ⟨0x42C80000, 0⟩, yprev := ⟨0x42480000, 0⟩, sym := ⟨0x42480000, 0⟩, symCount := 1 } }

/-- The template indices of V-L3. -/
def templateIndices : List Nat := [5, 5, 7, 0, 7, 3, 3, 3, 7, 3, 3, 1, 4, 2, 3, 7]

/-- The window of V-C1 without its first five samples: the template, four samples a symbol. -/
def matchedWindow : List Cplx :=
  templateIndices.flatMap (fun k => [constellation 8 k, constellation 8 k, constellation 8 k, constellation 8 k])

/-- Reset, then the matched window. -/
def acquiring : State := { State.reset with corr := { State.reset.corr with win := matchedWindow } }

/-- Reset, then 64 zero samples. -/
def silentWindow : State :=
  { State.reset with corr := { State.reset.corr with win := List.replicate 64 ⟨0, 0⟩ } }

/-- Reset, then an error of code 7 that the host has not cleared. -/
def failed : State := { State.reset with err := true, errCode := .sweepShort, irqPend := 0b0001 }

/-! ### WellFormed refuses each ill-formed operand (R114, R119) -/

theorem test_wf_scrAdvance_17_bits : (Instr.scrAdvance 65536).wellFormed = false := by decide
theorem test_wf_mapEnc_d_4_bits : (Instr.mapEnc 8 0).wellFormed = false := by decide
theorem test_wf_mapEnc_s_4_bits : (Instr.mapEnc 0 8).wellFormed = false := by decide
theorem test_wf_mapDec_4_bits : (Instr.mapDec 8).wellFormed = false := by decide
theorem test_wf_txSym_4_bits : (Instr.txSym 8).wellFormed = false := by decide
theorem test_wf_layoutClass_17_bits : (Instr.layoutClass 65536).wellFormed = false := by decide

/-! ### Decoding: OP in [31:24], then the operand bits, written out from R112, R113 and R121 -/

theorem test_decode_nop : decode 0b00000000_00000000_00000000_00000000 = .ok .nop := by decide +kernel
theorem test_decode_softReset : decode 0b00000001_00000000_00000000_00000000 = .ok .softReset := by decide +kernel
theorem test_decode_scrReset : decode 0b00010000_00000000_00000000_00000000 = .ok .scrReset := by decide +kernel
theorem test_decode_scrNext : decode 0b00010001_00000000_00000000_00000000 = .ok .scrNext := by decide +kernel
theorem test_decode_scrAdvance :
    decode 0b00010010_00000000_10000001_00000010 = .ok (.scrAdvance 33026) := by decide +kernel
theorem test_decode_mapEnc :
    decode 0b00100000_00000000_00000000_00110101 = .ok (.mapEnc 5 3) := by decide +kernel
theorem test_decode_mapDec :
    decode 0b00100001_00000000_00000000_01100000 = .ok (.mapDec 6) := by decide +kernel
theorem test_decode_txSym :
    decode 0b00100010_00000000_00000000_00000100 = .ok (.txSym 4) := by decide +kernel
theorem test_decode_rxSym : decode 0b00100011_00000000_00000000_00000000 = .ok .rxSym := by decide +kernel
theorem test_decode_layoutClass :
    decode 0b00101000_00000000_00000001_11011111 = .ok (.layoutClass 479) := by decide +kernel
theorem test_decode_syncCfg : decode 0b00110000_00000000_00000000_00000000 = .ok .syncCfg := by decide +kernel
theorem test_decode_syncReset : decode 0b00110001_00000000_00000000_00000000 = .ok .syncReset := by decide +kernel
theorem test_decode_syncPush : decode 0b00110010_00000000_00000000_00000000 = .ok .syncPush := by decide +kernel
theorem test_decode_corrReset : decode 0b01000000_00000000_00000000_00000000 = .ok .corrReset := by decide +kernel
theorem test_decode_corrPush : decode 0b01000001_00000000_00000000_00000000 = .ok .corrPush := by decide +kernel
theorem test_decode_corrSweep : decode 0b01000010_00000000_00000000_00000000 = .ok .corrSweep := by decide +kernel

/-- V-S5, V-M5 and V-E1: words that R117 makes illegal. -/
theorem test_decode_illegal :
    [0x10000001, 0x11000100, 0x12010000, 0x21000001, 0x20000008, 0x22000010, 0x02000000, 0x00000001,
      0xFF000000, 0x22000014].all (fun w => (decode w).toOption.isNone) = true := by decide +kernel

theorem test_decodeTableWord : decodeTableWord 32 0x20000077 = some (.mapEnc 7 7) := by decide +kernel

/-- The placed word is the one the very next step performs, from reset. -/
theorem test_withFetchWord :
    nextHas (fun t => t.ptI == 0xBF800000 && t.ptQ == 0 && t.result == 0x142 && !t.busy)
      (step (State.reset.withFetchWord 32 0x20000012)) = true := by decide +kernel

/-! ### One step of each command -/

theorem test_nop : exec .nop traceD = .next traceD := rfl

/-- V-K3: SOFT_RESET clears the units and keeps the gains and DIVERGED. -/
theorem test_softReset :
    nextHas (fun t => readReg .scrState t == 0xBAD && readReg .syncStat t == 8 && readReg .winCount t == 0 &&
        t.sync.alpha == 0x3D613DE0 && t.sync.diverged)
      (exec .softReset { acquiring with sync := { traceD.sync with diverged := true }, scr := ⟨0x87E, 10⟩ }) = true := by
  decide +kernel

/-- V-S4: from SCR_STATE 0x000A087E; RESULT unchanged. -/
theorem test_scrReset :
    nextHas (fun t => readReg .scrState t == 0xBAD && t.result == 0x600)
      (exec .scrReset { State.reset with scr := ⟨0x87E, 10⟩, result := 0x600 }) = true := by decide +kernel

/-- V-S1: the first two steps of the sequence, and V-S2. -/
theorem test_scrNext :
    nextHas (fun t => readReg .scrState t == 0x2055A && t.result == 0x200)
      (exec .scrNext { State.reset with scr := ⟨0x948, 1⟩ }) = true ∧ scrClock 0xBAD = 0x709 := by decide +kernel

/-- V-S1: the 160th next reloads. -/
theorem test_scrNext_reload :
    nextHas (fun t => readReg .scrState t == 0xBAD && t.result == 0x600)
      (exec .scrNext { State.reset with scr := ⟨0x5B5, 159⟩ }) = true := by decide +kernel

/-- V-S3: COUNT 100. -/
theorem test_scrAdvance :
    nextHas (fun t => readReg .scrState t == 0x640A4C && t.result == 0x400)
      (exec (.scrAdvance 100) State.reset) = true := by decide +kernel

/-- V-M2: N = 8, D = 5, S = 3; N = 4, D = 3, S = 5. -/
theorem test_mapEnc :
    nextHas (fun t => t.point == ⟨0x3F3504F3, 0x3F3504F3⟩ && t.result == 0x315)
      (exec (.mapEnc 5 3) State.reset) = true ∧
    nextHas (fun t => t.point == ⟨0, 0xBF800000⟩ && t.result == 0x533) (exec (.mapEnc 3 5) four) = true := by
  decide +kernel

/-- V-M2: D = 4 with N = 4 is ARG_RANGE. -/
theorem test_mapEnc_range :
    nextHas (fun t => t.statusWord == 0x202 && t.result == 0) (exec (.mapEnc 4 0) four) = true := by decide +kernel

/-- V-M3: the example of R180, and the sign of a zero SOFT. -/
theorem test_mapDec :
    nextHas (fun t => t.result == 0x307 && t.soft == 0x3F666666)
      (exec (.mapDec 3) (atPoint 0x3F666666 0x3E99999A)) = true ∧
    nextHas (fun t => t.result == 0x550 && t.soft == 0x80000000) (exec (.mapDec 5) (atPoint 0 0)) = true := by
  decide +kernel

/-- V-M3: a tie goes to the lowest j; 65536 is valid, the next f32 is not. -/
theorem test_mapDec_edges :
    nextHas (fun t => t.result == 0x11 && t.soft == 0x3F6C835E)
      (exec (.mapDec 0) (atPoint 0x3EC3EF15 0x3F6C835E)) = true ∧
    nextHas (fun t => t.result == 0x214) (exec (.mapDec 2) (atPoint 0x47800000 0x47800000)) = true ∧
    nextHas (fun t => t.statusWord == 0x302) (exec (.mapDec 0) (atPoint 0x47800001 0)) = true := by decide +kernel

/-- V-M6, row 2. -/
theorem test_txSym :
    nextHas (fun t => t.point == ⟨0xBF3504F3, 0x3F3504F3⟩ && t.result == 0x231)
      (exec (.txSym 1) { State.reset with scr := ⟨0x948, 1⟩ }) = true := by decide +kernel

/-- V-M7, row 2. -/
theorem test_rxSym :
    nextHas (fun t => t.result == 0x231 && t.soft == 0x3F7FFFFF && readReg .scrState t == 0x2055A)
      (exec .rxSym { atPoint 0xBF3504F3 0x3F3504F3 with scr := ⟨0x948, 1⟩ }) = true := by decide +kernel

/-- V-L1: POS 31, 32 and 480. -/
theorem test_layoutClass :
    nextHas (fun t => t.result == 0) (exec (.layoutClass 31) State.reset) = true ∧
    nextHas (fun t => t.result == 0x1550) (exec (.layoutClass 32) State.reset) = true ∧
    nextHas (fun t => t.statusWord == 0x202) (exec (.layoutClass 480) State.reset) = true := by decide +kernel

/-- The example of R222. -/
theorem test_syncCfg :
    nextHas (fun t => t.sync.alpha == 0x3D613DE0 && t.sync.beta == 0x3ACBDE13 && t.statusWord == 8)
      (exec .syncCfg { State.reset with zeta := 0x3F350481, omega := 0x3CA3D70A }) = true := by decide +kernel

/-- V-Y7: a failing `sync.cfg` unconfigures and resets. -/
theorem test_syncCfg_invalid :
    nextHas (fun t => t.sync.alpha == 0 && readReg .syncStat t == 8 && t.statusWord == 0x402)
      (exec .syncCfg { traceD with zeta := 0 }) = true := by decide +kernel

/-- V-Y8. -/
theorem test_syncReset :
    nextHas (fun t => readReg .syncStat t == 8 && readReg .syncW t == 0x3F000000 && readReg .symI t == 0 &&
        t.statusWord == 0x0C)
      (exec .syncReset { traceD with sync := { traceD.sync with diverged := true } }) = true := by decide +kernel

/-- V-Y3, push 5: an on-time strobe; V-E1: NOT_CONFIGURED is code 5. -/
theorem test_syncPush_symbol :
    nextHas (fun t => readReg .syncStat t == 0x10004 && t.sync.nco == 0x3F000000 && t.sync.e == 0x80000000 &&
        t.sync.sym == ⟨0xBF800000, 0xBF800000⟩ && t.irqPend == 0b0010)
      (exec .syncPush traceA) = true ∧
    nextHas (fun t => t.statusWord == 0x502) (exec .syncPush State.reset) = true := by decide +kernel

/-- V-Y6, push 9: both clamps. -/
theorem test_syncPush_clamp :
    nextHas (fun t => t.sync.e == 0x461C4000 && t.sync.integ == 0x3E800000 && t.sync.v == 0x3E800000 &&
        t.sync.sym == ⟨0x43160000, 0⟩ && t.sync.diverged && t.irqPend == 0b1010 && !t.err)
      (exec .syncPush traceD) = true := by decide +kernel

theorem test_corrReset :
    nextHas (fun t => readReg .winCount t == 0 && t.corr.conf == 0 && !t.corr.acq)
      (exec .corrReset { acquiring with corr := { acquiring.corr with conf := 0x3F800000, acq := true } }) = true := by
  decide +kernel

/-- V-E1: -inf is SAMPLE_INVALID; a valid sample is appended last (R273). -/
theorem test_corrPush :
    nextHas (fun t => t.statusWord == 0x302 && readReg .winCount t == 64)
      (exec .corrPush { acquiring with sampQ := 0xFF800000 }) = true ∧
    nextHas (fun t => readReg .winCount t == 65 && t.corr.winAt 64 == ⟨0x3F800000, 0⟩)
      (exec .corrPush { acquiring with sampI := 0x3F800000 }) = true := by decide +kernel

/-- V-C1 at its peak offset: confidence 1.0, acquired. -/
theorem test_corrSweep :
    nextHas (fun t => t.corr.best == 0 && t.corr.conf == 0x3F800000 && t.corr.acq && t.irqPend == 0b0100)
      (exec .corrSweep acquiring) = true := by decide +kernel

/-- V-C1 at offset 0: confidence 0x3DC873D4, not acquired; V-E1: SWEEP_SHORT on an empty window, and TPL_EMPTY
before it, code 8. -/
theorem test_corrSweep_far :
    nextHas (fun t => t.corr.conf == 0x3DC873D4 && !t.corr.acq && t.statusWord == 0x40)
      (exec .corrSweep { acquiring with corr := { acquiring.corr with
        win := List.replicate 5 ⟨0, 0⟩ ++ matchedWindow } }) = true ∧
    nextHas (fun t => t.statusWord == 0x702) (exec .corrSweep State.reset) = true ∧
    nextHas (fun t => t.statusWord == 0x802) (exec .corrSweep { State.reset with tpl := 0x00100000 }) = true := by decide +kernel

/-! ### Host accesses -/

/-- V-K1: the reserved bits are dropped; SPS = 5 gives W = 0x3ECCCCCD (V-Y2); SPS = 3 is illegal. -/
theorem test_mode_write :
    nextHas (fun t => t.mode == 0x400 && t.sync.w == 0x3F000000) (step (writing traceD 0x14 0xFFFF0400)) = true ∧
    nextHas (fun t => t.sync.w == 0x3ECCCCCD && readReg .syncStat t == 8) (step (writing traceD 0x14 0x500)) = true ∧
    nextHas (fun t => t.statusWord == 0x60A && t.mode == 0x400) (step (writing traceD 0x14 0x300)) = true := by
  decide +kernel

/-- V-K2: the STATUS write-1-to-clear. -/
theorem test_status_write :
    nextHas (fun t => t.statusWord == 0x702)
      (step (writing { failed with sync := { State.reset.sync with diverged := true } } 0x08 4)) = true := by
  decide +kernel

/-- V-B1: the byte at offset 0x00 is '0' (R81), and the bus refusals. -/
theorem test_bus :
    lane idConstant 0 = 0x30 ∧
    step { State.reset with inbox := [.read .w16 0x08] } = .refused .busWidth ∧
    step { State.reset with inbox := [.write .w8 0x14 0] } = .refused .busWidth ∧
    step { State.reset with inbox := [.read .w32 0x0A] } = .refused .busAlign ∧
    step { State.reset with inbox := [.read .w32 0x100] } = .fault .outsideWindow :=
  ⟨by decide, rfl, rfl, rfl, rfl⟩

/-- V-E1, last row: a write while busy. -/
theorem test_busy_write :
    nextHas (fun t => t.statusWord == 0x903 && t.ptI == 0 && t.irqPend == 1)
      (step (writing { inFlight 0x10000000 with inbox := [] } 0x40 0x3F800000)) = true := by decide +kernel

/-! ### Witnesses: states and operands that meet the hypotheses of each statement together. A variable of a
statement that a hypothesis equates with an expression is that expression here. -/

/-- DecodeOfEncode: every operand field at its greatest value. -/
theorem witness_DecodeOfEncode :
    (Instr.scrAdvance 65535).wellFormed = true ∧ (Instr.mapEnc 7 7).wellFormed = true ∧
    (Instr.mapDec 7).wellFormed = true ∧ (Instr.txSym 7).wellFormed = true ∧
    (Instr.layoutClass 65535).wellFormed = true ∧ Instr.corrSweep.wellFormed = true := by decide

/-- EncodeOfDecode. -/
theorem witness_EncodeOfDecode : decode 0x20000077 = .ok (.mapEnc 7 7) := by decide +kernel

/-- DecodeFollowsOpcodeMap: the rows with operands, all operand bits set. -/
theorem witness_DecodeFollowsOpcodeMap :
    (0x1200FFFF : Word) &&& 0xFFFF0000 = 0x12000000 ∧ (0x20000077 : Word) &&& 0xFFFFFF88 = 0x20000000 ∧
    (0x21000070 : Word) &&& 0xFFFFFF8F = 0x21000000 ∧ (0x22000007 : Word) &&& 0xFFFFFFF8 = 0x22000000 ∧
    (0x2800FFFF : Word) &&& 0xFFFF0000 = 0x28000000 ∧ decode 0x42000000 = .ok .corrSweep := by decide +kernel

/-- IllegalWordsRecordIllegalCmd: the ends of every range of OP values and of every reserved field; each
word in flight is completed as ILLEGAL_CMD. -/
theorem witness_IllegalWordsRecordIllegalCmd :
    [0x02000000, 0x0F000000, 0x13000000, 0x1F000000, 0x24000000, 0x27000000, 0x29000000, 0x2F000000,
      0x33000000, 0x3F000000, 0x43000000, 0xFFFFFFFF, 0x00000001, 0x42800000, 0x12010000, 0x28800000,
      0x20000008, 0x20000080, 0x21000001, 0x21000080, 0x22000008, 0x22800000].all
      (fun w => (inFlight w).pending == some w && (inFlight w).inbox.head? == some .complete &&
        nextHas (fun t => t.statusWord == 0x102) (step (inFlight w))) = true := by decide +kernel

/-- StepRunsDecodedCommand, by a `complete` event and by an empty inbox. -/
theorem witness_StepRunsDecodedCommand :
    (inFlight 0x22000005).pending = some 0x22000005 ∧ decode 0x22000005 = .ok (.txSym 5) ∧
    (inFlight 0x22000005).inbox.head? = some .complete ∧
    ({ inFlight 0x22000005 with inbox := [] } : State).inbox = [] := by decide +kernel

/-- CmdWriteIssues: idle; idle with an illegal word and the completion next; busy. -/
theorem witness_CmdWriteIssues :
    (writing State.reset 0x04 0x10000000).inbox = .write .w32 0x04 0x10000000 :: [] ∧
    (writing State.reset 0x04 0x10000000).pending = none ∧ (decode 0x10000001).toOption = none ∧
    ({ State.reset with inbox := [.write .w32 0x04 0x10000001, .complete] } : State).inbox =
      .write .w32 0x04 0x10000001 :: [.complete] ∧
    (writing (inFlight 0x00000000) 0x04 0x10000000).pending ≠ none := by decide +kernel

/-- EveryIssuedCommandCompletes: a command in flight, and the host still reading. -/
theorem witness_EveryIssuedCommandCompletes :
    ({ inFlight 0x10000000 with inbox := [.read .w32 0x08, .read .w32 0xFC] } : State).inbox.all passes = true := by
  decide

/-- OnlyBusChecksStopAStep: the last offset of the window passes, the next does not. -/
theorem witness_OnlyBusChecksStopAStep :
    passes (.read .w32 0xFC) = true ∧ passes (.read .w32 0x100) = false ∧ passes (.write .w64 0 0) = false := by
  decide

/-- AccessesWhileBusyDoNotDisturb: a write and two reads before the completion. -/
theorem witness_AccessesWhileBusyDoNotDisturb :
    let evs : List Event := [.write .w32 0x40 1, .read .w32 0x08, .read .w32 0x48]
    (∀ ev ∈ evs, isAccess ev = true ∧ passes ev = true) ∧
    ({ inFlight 0x11000000 with inbox := evs ++ .complete :: [] } : State).pending = some 0x11000000 := by
  refine ⟨by decide, rfl⟩

theorem scramblerAfter_add (n k : Nat) :
    scramblerAfter (n + k) = (fun c => (scrNext c).1)^[k] (scramblerAfter n) := by
  induction k with
  | zero => rfl
  | succ k ih => rw [Function.iterate_succ_apply', ← ih]; rfl

theorem scramblerAfter_40 : scramblerAfter 40 = ⟨0xfe3, 40⟩ := by decide +kernel
theorem scramblerAfter_80 : scramblerAfter 80 = ⟨0x290, 80⟩ := by
  rw [scramblerAfter_add 40 40, scramblerAfter_40]; decide +kernel
theorem scramblerAfter_120 : scramblerAfter 120 = ⟨0x755, 120⟩ := by
  rw [scramblerAfter_add 80 40, scramblerAfter_80]; decide +kernel
theorem scramblerAfter_159 : scramblerAfter 159 = ⟨0x5B5, 159⟩ := by
  rw [scramblerAfter_add 120 39, scramblerAfter_120]; decide +kernel

/-- ScrAdvanceFromAlignedPosition: an aligned scrambler at the last position, where COUNT = 1 reloads. -/
theorem witness_ScrAdvanceFromAlignedPosition : Aligned ⟨0x5B5, 159⟩ ∧ 0 < 1 :=
  ⟨⟨by decide, scramblerAfter_159.symm⟩, by decide⟩

/-- ScrAdvanceIsRepeatedNext, its second clause at its least count. -/
theorem witness_ScrAdvanceIsRepeatedNext :
    nextHas (fun t => t.scr == ⟨0x948, 1⟩) (execTimes .scrNext 1 State.reset) = true := by decide +kernel

/-- GrayMapsInvert. -/
theorem witness_GrayMapsInvert : grayInv 8 (gray 8 7) = 7 ∧ grayInv 4 (gray 4 3) = 3 ∧ gray 8 7 < 8 := by decide

/-- MapEncResult and TxSymResult: the greatest D of each mode, and the least that is out of range. -/
theorem witness_MapEncResult_TxSymResult :
    7 < State.reset.order ∧ 3 < four.order ∧ four.order ≤ 4 ∧ four.order ≤ 7 := by decide +kernel

/-- MapDecChoosesBestCandidate and RxSymResult: the largest valid components; RxSymResult's other clause. -/
theorem witness_MapDec_RxSym :
    validSample (atPoint 0x47800000 0xC7800000).point = true ∧
    validSample (atPoint 0x47800001 0).point = false := by decide +kernel

/-- MapRoundTrip: D = N - 1, S = 7. -/
theorem witness_MapRoundTrip :
    3 < four.order ∧
    nextHas (fun t => t.result == 0x713) (exec (.mapEnc 3 7) four) = true := by decide +kernel

/-- LoopbackRecoversEveryMessage: the message of V-M10. -/
theorem witness_LoopbackRecoversEveryMessage :
    ∀ d ∈ [0, 1, 2, 3, 4, 5, 6, 7, 0, 1], d < State.reset.order := by decide +kernel

/-- InvalidSamplesAreRejected: an infinite point, a NaN sample, a configured synchronizer. -/
theorem witness_InvalidSamplesAreRejected :
    validSample (atPoint 0 0xFF800000).point = false ∧
    validSample ({ configured with sampI := 0x7FC00000 } : State).sample = false ∧
    ({ configured with sampI := 0x7FC00000 } : State).sync.cfgValid = true := by decide +kernel

/-- LayoutClassResult: the last data, the first probe, the last and the first illegal position. -/
theorem witness_LayoutClassResult :
    (State.reset.dataRun + State.reset.probeRun) * State.reset.mfPerSf = 480 ∧
    31 % (State.reset.dataRun + State.reset.probeRun) < State.reset.dataRun ∧
    State.reset.dataRun ≤ 32 % (State.reset.dataRun + State.reset.probeRun) ∧
    State.reset.dataRun ≤ 479 % (State.reset.dataRun + State.reset.probeRun) := by decide +kernel

/-- TemplateAgreesWithLayout: a present entry, and a gap. -/
theorem witness_TemplateAgreesWithLayout :
    1 ≤ State.reset.sfLen ∧ 35 = (State.reset.tplStart + 3) % State.reset.sfLen ∧
    (State.reset.templateSlot 3).isSome = true ∧ (State.reset.templateSlot 16).isSome = false := by decide +kernel

/-- SyncCfgDerivesGains: a legal pair; ζ = +0.0 and ω an infinity, where the second clause applies. -/
theorem witness_SyncCfgDerivesGains :
    validCfg 0x3F350481 0x3CA3D70A = true ∧ validCfg 0x00000000 0x3CA3D70A = false ∧
    validCfg 0x3F350481 0x7F800000 = false := by decide +kernel

/-- SyncPushFillsHistory: not configured; configured, with the last sample of the fill to come. -/
theorem witness_SyncPushFillsHistory :
    State.reset.sync.cfgValid = false ∧
    ({ traceA with sync := { traceA.sync with fill := 3 } } : State).sync.fill < 4 ∧
    traceA.sync.cfgValid = true ∧ validSample traceA.sample = true := by decide +kernel

/-- SyncPushWithoutSymbol: pushes 6 and 7 of trace A, η equal to the step (no strobe) and below it. -/
theorem witness_SyncPushWithoutSymbol :
    traceA.sync.cfgValid = true ∧ validSample traceA.sample = true ∧ 4 ≤ traceA.sync.fill ∧
    flt 0x3F000000 (fadd traceA.sync.w traceA.sync.v) = false ∧
    flt 0x00000000 (fadd traceA.sync.w traceA.sync.v) = true ∧
    ({ traceA with sync := { traceA.sync with phase := false } } : State).sync.phase = false := by decide +kernel

/-- SyncPushEmitsSymbol: trace A without a clamp, trace D with one (the tests above push both). -/
theorem witness_SyncPushEmitsSymbol :
    ∀ s ∈ [traceA, traceD],
      s.sync.cfgValid = true ∧ validSample s.sample = true ∧ 4 ≤ s.sync.fill ∧
      flt s.sync.nco (fadd s.sync.w s.sync.v) = true ∧ s.sync.phase = true := by decide +kernel

/-- InterpolatorAtZero: the bounds of a valid component, and the least non-zero basepoint. -/
theorem witness_InterpolatorAtZero :
    validComponent 0x47800000 = true ∧ validComponent 0xC7800000 = true ∧ validComponent 0x00000001 = true ∧
    (0x00000001 : F32).toNat % 2 ^ 31 ≠ 0 := by decide +kernel

/-- A configured block with trace D's loop, a symbol push in flight, is legal, sound and bounded. -/
def running : State := { traceD with cmd := 0x32000000, pending := some 0x32000000 }

theorem running_config : ConfigLegal running where
  mode_reserved := by decide +kernel
  sps_range := by decide +kernel
  layout_reserved := by decide +kernel
  layout_legal := by decide +kernel
  tpl_reserved := by decide +kernel
  tpl_range := by decide +kernel
  search_reserved := by decide +kernel
  search_range := by decide +kernel
  thresh_legal := by decide +kernel
  result_reserved := by decide +kernel
  w_matches := by decide +kernel

theorem running_units : UnitsSound running where
  aligned := ⟨by decide, by decide⟩
  fill_le := by decide
  filling_untouched := fun h => absurd h (by decide)
  unconfigured_gains := by decide
  gains_finite := by decide +kernel
  history_valid := by decide +kernel
  window_fits := by decide
  window_full_when_slid := by decide
  window_valid := by decide
  best_lt := by decide
  no_sweep_no_result := by decide

theorem running_control : ControlSound running where
  pending_is_cmd := fun w h => by cases h; rfl
  err_has_code := by decide

theorem running_bounded : LoopBounded running.sync where
  nco_unit := by decide +kernel
  mu_unit := by decide +kernel
  integ_bound := by decide +kernel
  v_bound := by decide +kernel
  e_bound := by decide +kernel
  strobes_bound := by decide +kernel

/-- StepKeepsConfigLegal, StepKeepsUnitsSound, StepKeepsControlSound and TimingLoopStaysBounded: the push of
trace D, which clamps. -/
theorem witness_StepKeeps :
    ConfigLegal running ∧ UnitsSound running ∧ ControlSound running ∧ LoopBounded running.sync ∧
    ∃ t, step running = .next t ∧ t.sync.diverged = true :=
  ⟨running_config, running_units, running_control, running_bounded, nextHas_exists _ _ (by decide +kernel)⟩

/-- SilenceKeepsTheLoopStill: a configured block with a full history of zeros. -/
def quiet : State := { configured with sync := { configured.sync with fill := 4 } }

theorem witness_SilenceKeepsTheLoopStill :
    ConfigLegal quiet ∧ UnitsSound quiet ∧ LoopBounded quiet.sync ∧ Silent quiet.sync ∧
    quiet.sync.cfgValid = true ∧ quiet.sampI = 0 ∧ quiet.sampQ = 0 :=
  ⟨{ running_config with },
    { aligned := ⟨by decide, by decide⟩, fill_le := by decide
      filling_untouched := fun h => absurd h (by decide), unconfigured_gains := by decide
      gains_finite := by decide +kernel, history_valid := by decide +kernel, window_fits := by decide
      window_full_when_slid := by decide, window_valid := by decide, best_lt := by decide
      no_sweep_no_result := by decide },
    { nco_unit := by decide +kernel, mu_unit := by decide +kernel, integ_bound := by decide +kernel
      v_bound := by decide +kernel, e_bound := by decide +kernel, strobes_bound := by decide +kernel },
    { hist_zero := rfl, strobes_zero := by decide, loop_zero := by decide }, rfl, rfl, rfl⟩

/-- CorrPushAppendsOrSlides: one below the capacity, and at it. -/
theorem witness_CorrPushAppendsOrSlides :
    validSample acquiring.sample = true ∧ (List.replicate 4095 czero).length < 4096 ∧
    4096 ≤ (List.replicate 4096 czero).length := by
  simp only [List.length_replicate]; decide +kernel

/-- WindowHoldsNewestSamples: from reset, the template's samples. -/
theorem witness_WindowHoldsNewestSamples :
    State.reset.corr.win = [] ∧ State.reset.corr.winBase = 0 ∧
    ∀ x ∈ matchedWindow, validSample x = true := by decide +kernel

/-- SweepPreconditions: a template span of DATA positions; a window one sample short. -/
theorem witness_SweepPreconditions :
    1 ≤ State.reset.searchLen ∧
    (∀ k, k < ({ State.reset with tpl := 0x00100000 } : State).tplLen →
      ({ State.reset with tpl := 0x00100000 } : State).isProbe
        ((({ State.reset with tpl := 0x00100000 } : State).tplStart + k) %
          ({ State.reset with tpl := 0x00100000 } : State).sfLen) = false) ∧
    (0 < acquiring.tplLen ∧ acquiring.isProbe ((acquiring.tplStart + 0) % acquiring.sfLen) = true) ∧
    (matchedWindow.drop 1).length < (acquiring.searchLen - 1) + acquiring.tplLen * acquiring.sps := by
  decide +kernel

/-- SweepReportsFirstPeak and ConfidenceInUnitInterval: a window of exactly the samples needed, all 16 template
positions PROBE (its confidence is 1.0, `test_corrSweep`). -/
theorem witness_SweepReportsFirstPeak :
    1 ≤ acquiring.searchLen ∧
    (List.range acquiring.tplLen).filter (fun k => decide (acquiring.dataRun ≤
      (acquiring.tplStart + k) % acquiring.sfLen % (acquiring.dataRun + acquiring.probeRun))) ≠ [] ∧
    (acquiring.searchLen - 1) + acquiring.tplLen * acquiring.sps = acquiring.corr.win.length ∧
    ∀ x ∈ acquiring.corr.win, validSample x = true := by decide +kernel

theorem witness_ConfidenceInUnitInterval :
    ConfigLegal acquiring ∧ ∀ x ∈ acquiring.corr.win, validSample x = true :=
  ⟨{ running_config with }, by decide +kernel⟩

/-- SilentWindowIsNotAcquired: V-C4's first row. -/
theorem witness_SilentWindowIsNotAcquired :
    1 ≤ silentWindow.searchLen ∧ validThresh silentWindow.corrThresh = true ∧
    (∀ x ∈ silentWindow.corr.win, x = ⟨0, 0⟩) ∧
    (0 < silentWindow.tplLen ∧ silentWindow.isProbe ((silentWindow.tplStart + 0) % silentWindow.sfLen) = true) ∧
    (silentWindow.searchLen - 1) + silentWindow.tplLen * silentWindow.sps ≤ silentWindow.corr.win.length := by
  decide +kernel

/-- WriteWhileBusyIsDropped and the busy clause of ReadsHaveNoSideEffect: the last offset of the window. -/
theorem witness_busy_access :
    (writing (inFlight 0x10000000) 0xFC 1).pending = some 0x10000000 ∧ 0xFC < 256 ∧ 0xFC % 4 = 0 ∧
    ({ inFlight 0x10000000 with inbox := [.read .w32 0xFC] } : State).pending ≠ none := by decide

/-- ReadsHaveNoSideEffect idle, StatusWriteOneToClear, InterruptRegisters, ModeChange, ValidatedWrites,
PlainAndIgnoredWrites: an idle block with one access to come. -/
theorem witness_idle_access :
    (writing failed 0x08 2).pending = none ∧ (writing failed 0x08 2).inbox = .write .w32 0x08 2 :: [] ∧
    ({ State.reset with inbox := [.read .w32 0x84] } : State).pending = none ∧
    (writing failed 0x10 1).inbox = .write .w32 0x10 1 :: [] := by decide

/-- PackedRegisters: each count at its field's greatest value. -/
theorem witness_PackedRegisters :
    ({ running with scr := ⟨0xFFF, 255⟩ } : State).scr.pos < 256 ∧
    ({ running with sync := { running.sync with fill := 7 } } : State).sync.fill < 8 ∧
    ({ running with corr := { running.corr with best := 4095 } } : State).corr.best < 4096 ∧
    (List.replicate 4096 czero).length < 8192 := by
  simp only [List.length_replicate]; decide

/-- ModeChange: SPS 4, 64, 3 and 65; D + P = 1 with M = 1; D + P = 0; M = 0. -/
theorem witness_ModeChange :
    (4 ≤ (0x400 : Word).toNat / 2 ^ 8 % 256 ∧ (0x4000 : Word).toNat / 2 ^ 8 % 256 ≤ 64) ∧
    (0x300 : Word).toNat / 2 ^ 8 % 256 < 4 ∧ 64 < (0x4100 : Word).toNat / 2 ^ 8 % 256 ∧
    (1 ≤ (0x00010100 : Word).toNat % 256 + (0x00010100 : Word).toNat / 2 ^ 8 % 256 ∧
      1 ≤ (0x00010100 : Word).toNat / 2 ^ 16 % 256) ∧
    (0x00010000 : Word).toNat % 256 + (0x00010000 : Word).toNat / 2 ^ 8 % 256 < 1 ∧
    (0x00000101 : Word).toNat / 2 ^ 16 % 256 < 1 := by decide

/-- ValidatedWrites: the ends of each legal range, and their neighbours (V-C5). -/
theorem witness_ValidatedWrites :
    1 ≤ (0x00010000 : Word).toNat / 2 ^ 16 % 512 ∧ (0x01000000 : Word).toNat / 2 ^ 16 % 512 ≤ 256 ∧
    (0x00000020 : Word).toNat / 2 ^ 16 % 512 < 1 ∧ 256 < (0x01010020 : Word).toNat / 2 ^ 16 % 512 ∧
    1 ≤ (1 : Word).toNat % 8192 ∧ (4096 : Word).toNat % 8192 ≤ 4096 ∧ (0 : Word).toNat % 8192 < 1 ∧
    4096 < (4097 : Word).toNat % 8192 ∧ (0x3F800000 : Word).toNat ≤ 0x3F800000 ∧
    (0x3F800000 < (0x3F800001 : Word).toNat ∧ (0x3F800001 : Word) ≠ 0x80000000) := by decide

/-- PlainAndIgnoredWrites: the first and last offsets of the read-only and reserved ranges. -/
theorem witness_PlainAndIgnoredWrites :
    (writing State.reset 0x48 1).inbox = .write .w32 0x48 1 :: [] ∧
    (0x48 % 4 = 0 ∧ 0x48 < 256 ∧ 0x48 ≤ 0x48) ∧ (0x88 ≤ 0x88 ∧ 0xFC < 256 ∧ 0xFC % 4 = 0) := by decide

/-- BusRefusals: both names, for a read and for a write. -/
theorem witness_BusRefusals :
    ({ State.reset with inbox := [.read .w16 0xFC] } : State).inbox = .read .w16 0xFC :: [] ∧
    AccessWidth.w16 ≠ .w32 ∧ 0xFC < 256 ∧ (writing State.reset 0xFF 0).inbox = .write .w32 0xFF 0 :: [] ∧
    0xFF < 256 ∧ 0xFF % 4 ≠ 0 := by decide

/-- FlagsClearedOnlyByHost: the three flags set, each cleared by its own write. -/
theorem witness_FlagsClearedOnlyByHost :
    (∃ t, step (writing failed 0x08 2) = .next t ∧ (failed.err && !t.err) = true) ∧
    (∃ t, step (writing { traceD with sync := { traceD.sync with diverged := true } } 0x08 4) = .next t ∧
      (!t.sync.diverged) = true) ∧
    (∃ t, step (writing failed 0x10 1) = .next t ∧ (failed.irqPend.getLsbD 0 && !t.irqPend.getLsbD 0) = true) :=
  ⟨nextHas_exists _ _ (by decide +kernel), nextHas_exists _ _ (by decide +kernel),
    nextHas_exists _ _ (by decide +kernel)⟩

/-- GainsChangedOnlyBySyncCfg: a completing SYNC_CFG that sets CFG_VALID. -/
theorem witness_GainsChangedOnlyBySyncCfg :
    ∃ t, step { inFlight 0x30000000 with zeta := 0x3F350481, omega := 0x3CA3D70A } = .next t ∧
      (t.sync.cfgValid != State.reset.sync.cfgValid) = true :=
  nextHas_exists _ _ (by decide +kernel)

/-- HardResetValues: `rst` in a running block with a command in flight. -/
theorem witness_HardResetValues : ({ running with inbox := [.rst] } : State).inbox = .rst :: [] := by decide

/-- FloatAddMulAndCompare and FloatDivAndSqrt: the greatest finite number, the least subnormal, a NaN, both zeros
and both infinities. -/
theorem witness_Float :
    isFinite 0x7F7FFFFF = true ∧ isFinite 0x80000001 = true ∧ isNaN 0x7FC00000 = true ∧
    isFinite (zeroOf true) = true ∧ isFinite (infinityOf true) = false ∧ isNaN (infinityOf false) = false ∧
    0x01000000 ≤ 2 ^ 24 := by decide +kernel

/-- The clauses on values: a negative number, a zero, a number that is not negative. -/
theorem witness_Float_values :
    value 0x80000001 < 0 ∧ value 0x80000001 ≠ 0 ∧ value (zeroOf true) = 0 ∧
    value 0x3F800000 + value 0xBF800000 = 0 ∧ value 0x3F800000 - value 0x3F800000 = 0 ∧ 0 ≤ value 0x3F800000 := by
  have h1 : scaledInt 0x80000001 = -1 := by decide +kernel
  have h2 : scaledInt (zeroOf true) = 0 := by decide +kernel
  have h3 : scaledInt 0x3F800000 = 2 ^ 149 := by decide +kernel
  have h4 : scaledInt 0xBF800000 = -2 ^ 149 := by decide +kernel
  simp only [value_eq_scaledInt, h1, h2, h3, h4]
  norm_num

end Sys2Proof.Tests
end

section
/-! # Which steps stop, and that every issued command completes (00_scope.md R20, 70_reset_and_hazards.md R471)

Every command answers a next state and leaves the pending place and the inbox alone; a host event answers one
exactly where it passes the bus checks, and takes itself, no more, out of the inbox. Both statements about steps
follow: which steps stop (O10), and that the inbox runs out and the command in flight completes (O8). -/

namespace Sys2Proof.StepLaws

open Sys2Proof Sys2Proof.Machine Sys2Proof.Safety

/-! ### Commands -/

/-- The result is a next state that has kept the pending place and the inbox of `s`. -/
def KeepsQueue (s : State) (r : Result) : Prop :=
  ∃ t, r = .next t ∧ t.pending = s.pending ∧ t.inbox = s.inbox

theorem KeepsQueue.next {s t : State} (hp : t.pending = s.pending) (hi : t.inbox = s.inbox) :
    KeepsQueue s (.next t) := ⟨t, rfl, hp, hi⟩

theorem KeepsQueue.raiseError (c : ErrorCode) (s : State) : KeepsQueue s (raiseError c s) := .next rfl rfl

theorem KeepsQueue.ite {s : State} {p : Prop} [Decidable p] {a b : Result} (ha : KeepsQueue s a)
    (hb : KeepsQueue s b) : KeepsQueue s (if p then a else b) := by
  split
  · exact ha
  · exact hb

/-- No command stops, and none touches the pending place or the inbox (R20, R311, R400). -/
theorem exec_keepsQueue (i : Instr) (s : State) : KeepsQueue s (exec i s) := by
  cases i with
  | nop => exact .next rfl rfl
  | softReset => exact .next rfl rfl
  | scrReset => exact .next rfl rfl
  | scrNext => exact .next rfl rfl
  | scrAdvance count => exact .ite (.next rfl rfl) (.next rfl rfl)
  | mapEnc d st => exact .ite (.raiseError _ s) (.next rfl rfl)
  | mapDec st => exact .ite (.next rfl rfl) (.raiseError _ s)
  | txSym d => exact .ite (.raiseError _ s) (.next rfl rfl)
  | rxSym => exact .ite (.next rfl rfl) (.raiseError _ s)
  | layoutClass pos =>
    have hres (t i st c : Nat) : KeepsQueue s (.next (s.setResult t i st c)) := .next rfl rfl
    exact .ite (.raiseError _ s) (.ite (hres ..) (hres ..))
  | syncCfg => exact .ite (.next rfl rfl) (.next rfl rfl)
  | syncReset => exact .next rfl rfl
  | syncPush => exact .ite (.raiseError _ s) (.ite (.raiseError _ s) (.next rfl rfl))
  | corrReset => exact .next rfl rfl
  | corrPush => exact .ite (.next rfl rfl) (.raiseError _ s)
  | corrSweep => exact .ite (.raiseError _ s) (.ite (.raiseError _ s) (.next rfl rfl))

/-- A completion answers a state with nothing pending and the same inbox (R311, R405). -/
theorem complete_answers (s : State) :
    ∃ t, complete s = .next t ∧ t.pending = none ∧ t.inbox = s.inbox := by
  cases hp : s.pending with
  | none => exact ⟨s, by simp only [complete, hp], hp, rfl⟩
  | some w =>
    cases hd : decode w with
    | error e => exact ⟨s.retire.recordError .illegalCmd, by simp only [complete, hp, hd]; rfl, rfl, rfl⟩
    | ok i =>
      obtain ⟨t, ht, hpend, hin⟩ := exec_keepsQueue i s.retire
      exact ⟨t, by simp only [complete, hp, hd]; exact ht, hpend, hin⟩

/-! ### Host events -/

/-- What a host write to a register leaves of the inbox: everything (R314). -/
theorem writeReg_inbox (r : Reg) (v : Word) (s : State) : (writeReg r v s).inbox = s.inbox := by
  cases r with
  | mode => rcases modeWrite_cases v s with ⟨_, h⟩ | ⟨_, _, h⟩ <;> exact (congrArg State.inbox h).trans rfl
  | layout => rcases layoutWrite_cases v s with ⟨_, h⟩ | ⟨_, _, h⟩ <;> exact (congrArg State.inbox h).trans rfl
  | tpl => rcases tplWrite_cases v s with ⟨_, h⟩ | ⟨_, _, h⟩ <;> exact (congrArg State.inbox h).trans rfl
  | search => rcases searchWrite_cases v s with ⟨_, h⟩ | ⟨_, _, h⟩ <;> exact (congrArg State.inbox h).trans rfl
  | corrThresh => rcases threshWrite_cases v s with ⟨_, h⟩ | ⟨_, h⟩ <;> exact (congrArg State.inbox h).trans rfl
  | _ => rfl

/-- Handling an event leaves the inbox as it finds it. -/
theorem handleEvent_inbox (ev : Event) (s t : State) (h : handleEvent ev s = .next t) : t.inbox = s.inbox := by
  cases ev with
  | read width off =>
    obtain ⟨-, ⟨-, -, rfl⟩ | ⟨-, rfl⟩⟩ := hostRead_cases width off s t h <;> rfl
  | write width off v =>
    obtain ⟨-, ⟨-, rfl⟩ | ⟨-, r, -, rfl⟩ | ⟨-, -, rfl⟩⟩ := hostWrite_cases width off v s t h
    · rfl
    · exact writeReg_inbox r v s
    · rfl
  | complete =>
    obtain ⟨u, hu, -, hin⟩ := complete_answers s
    obtain rfl : u = t := Host.Outcome.next.inj (hu.symm.trans h)
    exact hin
  | rst =>
    obtain rfl : s.hardReset = t := Host.Outcome.next.inj h
    rfl

/-- The safe accesses of `passes` are those the bus lets through (R80, R82, R83). -/
theorem busCheck_none_iff_passes (width : AccessWidth) (off : Nat) :
    busCheck width off = none ↔ passes (.read width off) = true := by
  simp only [busCheck_none_iff, passes, Bool.and_eq_true, decide_eq_true_eq, and_assoc]

/-- An event is answered by a next state exactly where it passes the bus checks. -/
theorem handleEvent_next_iff (ev : Event) (s : State) :
    (∃ t, handleEvent ev s = .next t) ↔ passes ev = true := by
  cases ev with
  | read width off =>
    rw [← busCheck_none_iff_passes]
    refine ⟨fun ⟨t, h⟩ => (busCheck_none_iff width off).2 (hostRead_cases width off s t h).1, fun h => ?_⟩
    simp only [handleEvent, hostRead, h]
    split
    · exact ⟨_, rfl⟩
    · exact ⟨_, rfl⟩
  | write width off v =>
    change _ ↔ passes (.read width off) = true
    rw [← busCheck_none_iff_passes]
    refine ⟨fun ⟨t, h⟩ => (busCheck_none_iff width off).2 (hostWrite_cases width off v s t h).1, fun h => ?_⟩
    simp only [handleEvent, hostWrite, h]
    exact ⟨_, rfl⟩
  | complete =>
    obtain ⟨t, ht, -⟩ := complete_answers s
    exact ⟨fun _ => rfl, fun _ => ⟨t, ht⟩⟩
  | rst => exact ⟨fun _ => rfl, fun _ => ⟨s.hardReset, rfl⟩⟩

/-! ### Steps -/

/-- With no host event left, a step completes what is pending (R471; log 2). -/
theorem step_of_inbox_nil (s : State) (h : s.inbox = []) : step s = complete s := by
  simp only [step, nextStep, h]

/-- With a host event to come, a step handles it. -/
theorem step_of_inbox_cons (s : State) (ev : Event) (rest : List Event) (h : s.inbox = ev :: rest) :
    step s = handleEvent ev s.taken := by
  simp only [step, nextStep, h]

theorem runSteps_one (s : State) : runSteps 1 s = step s := by
  simp only [runSteps]
  split <;> simp only [*]

theorem runSteps_succ_of_step (s t : State) (k : Nat) (h : step s = .next t) :
    runSteps (k + 1) s = runSteps k t := by
  simp only [runSteps, h]

/-- Each step takes one event out of the inbox, and the step after the last one completes the command. -/
theorem exists_runSteps_pending_none (evs : List Event) (s : State) (hin : s.inbox = evs)
    (hpass : evs.all passes = true) :
    ∃ (k : Nat) (t : State), k ≤ evs.length + 1 ∧ runSteps k s = .next t ∧ t.pending = none := by
  induction evs generalizing s with
  | nil =>
    obtain ⟨t, ht, hpend, -⟩ := complete_answers s
    exact ⟨1, t, le_rfl, by rw [runSteps_one, step_of_inbox_nil s hin, ht], hpend⟩
  | cons ev rest ih =>
    obtain ⟨hev, hrest⟩ : passes ev = true ∧ rest.all passes = true := by simpa using hpass
    obtain ⟨u, hu⟩ := (handleEvent_next_iff ev s.taken).2 hev
    have hstep : step s = .next u := (step_of_inbox_cons s ev rest hin).trans hu
    have huin : u.inbox = rest := by rw [handleEvent_inbox ev s.taken u hu, State.taken_inbox, hin, List.tail_cons]
    obtain ⟨k, t, hk, hrun, hpend⟩ := ih u huin hrest
    exact ⟨k + 1, t, by simpa using hk, by rw [runSteps_succ_of_step s u k hstep, hrun], hpend⟩

/-- Settles O8, by induction on the host events to come. -/
theorem everyIssuedCommandCompletes : Obligations.EveryIssuedCommandCompletes := by
  intro s hpass
  exact exists_runSteps_pending_none s.inbox s rfl hpass

/-- Settles O10, by the first event of the inbox: with none the step is a completion, which never stops. -/
theorem onlyBusChecksStopAStep : Obligations.OnlyBusChecksStopAStep := by
  intro s
  cases hin : s.inbox with
  | nil =>
    obtain ⟨t, ht, -⟩ := complete_answers s
    exact ⟨fun _ _ hev => (nomatch hev), fun _ => ⟨t, (step_of_inbox_nil s hin).trans ht⟩⟩
  | cons ev rest =>
    rw [step_of_inbox_cons s ev rest hin, handleEvent_next_iff]
    simp

end Sys2Proof.StepLaws
end

section
/-! # Rounding a real to the nearest magnitude pattern, ties to even (00_scope.md R14)

The magnitudes of the finite f32 in units of 2^-149 are the integers `scaledMag 0 < scaledMag 1 < ...`, so a real
lies between two neighbouring patterns p and p + 1, and the nearest pattern to it is one of the two. `nearestEven`
picks it, and `roundRatio` and `roundSqrt` find p. -/

namespace Sys2Proof.Rounding

open Sys2Proof Sys2Proof.Machine Sys2Proof.Safety

/-! ### The magnitude of a pattern -/

/-- The magnitude that the pattern m without a sign bit stands for, in units of 2^-149. -/
def scaledMag (m : Nat) : Nat :=
  if m / 2 ^ 23 = 0 then m % 2 ^ 23 else (2 ^ 23 + m % 2 ^ 23) * 2 ^ (m / 2 ^ 23 - 1)

theorem scaled_eq_scaledMag (a : F32) : scaled a = scaledMag (magBits a) := rfl

/-- The pattern that `packMag` packs stands for `q * 2^k`, also where q has carried out to 2^24. -/
theorem scaledMag_packed (k q : Nat) (hq : q ≤ 2 ^ 24) (hk : k = 0 ∨ 2 ^ 23 ≤ q) :
    scaledMag (k * 2 ^ 23 + q) = q * 2 ^ k := by
  unfold scaledMag
  rcases Nat.lt_or_ge q (2 ^ 23) with hlow | hhigh
  · obtain rfl : k = 0 := by omega
    rw [if_pos (by omega)]
    omega
  · rw [if_neg (by omega)]
    rcases hq.lt_or_eq with hlt | rfl
    · rw [show (k * 2 ^ 23 + q) / 2 ^ 23 - 1 = k by omega, show 2 ^ 23 + (k * 2 ^ 23 + q) % 2 ^ 23 = q by omega]
    · rw [show (k * 2 ^ 23 + 2 ^ 24) / 2 ^ 23 - 1 = k + 1 by omega,
        show 2 ^ 23 + (k * 2 ^ 23 + 2 ^ 24) % 2 ^ 23 = 2 ^ 23 by omega]
      ring

/-- Every pattern is packed from a shift and at most 24 significant bits. -/
theorem exists_packed (m : Nat) : ∃ k q, m = k * 2 ^ 23 + q ∧ q < 2 ^ 24 ∧ (k = 0 ∨ 2 ^ 23 ≤ q) := by
  rcases Nat.lt_or_ge m (2 ^ 23) with h | h
  · exact ⟨0, m, by omega, by omega, .inl rfl⟩
  · exact ⟨m / 2 ^ 23 - 1, 2 ^ 23 + m % 2 ^ 23, by omega, by omega, by omega⟩

/-- A greater pattern stands for a greater magnitude. -/
theorem scaledMag_strictMono : StrictMono scaledMag := by
  refine strictMono_nat_of_lt_succ fun m => ?_
  obtain ⟨k, q, rfl, hq, hk⟩ := exists_packed m
  rw [Nat.add_assoc, scaledMag_packed k q hq.le hk, scaledMag_packed k (q + 1) hq (by omega)]
  exact Nat.mul_lt_mul_of_pos_right q.lt_succ_self (by positivity)

theorem scaledMag_zero : scaledMag 0 = 0 := rfl

theorem scaledMag_eq_zero_iff (m : Nat) : scaledMag m = 0 ↔ m = 0 :=
  scaledMag_strictMono.injective.eq_iff' scaledMag_zero

theorem scaledMag_infMag : scaledMag infMag = 2 ^ 24 * 2 ^ 253 :=
  scaledMag_packed 253 (2 ^ 24) le_rfl (.inr (by norm_num))

theorem scaledMag_largestFinite : scaledMag (infMag - 1) = (2 ^ 24 - 1) * 2 ^ 253 :=
  scaledMag_packed 253 (2 ^ 24 - 1) (by norm_num) (.inr (by norm_num))

/-- The overflow bound is the middle between the largest finite magnitude and the infinity's. -/
theorem largestFinite_add_infMag :
    (scaledMag (infMag - 1) : ℝ) + scaledMag (infMag - 1 + 1) = 2 * (overflowAt * 2 ^ 149) := by
  rw [show infMag - 1 + 1 = infMag from rfl, scaledMag_infMag, scaledMag_largestFinite, overflowAt]
  norm_num

theorem largestFinite_lt_overflow : (scaledMag (infMag - 1) : ℝ) < overflowAt * 2 ^ 149 := by
  rw [scaledMag_largestFinite, overflowAt]
  norm_num

theorem overflow_lt_infMag : overflowAt * 2 ^ 149 < (scaledMag infMag : ℝ) := by
  rw [scaledMag_infMag, overflowAt]
  norm_num

/-- A number of at most 24 bits, shifted, is the magnitude of some pattern. -/
theorem exists_scaledMag_eq (j n : Nat) (hn : n ≤ 2 ^ 24) : ∃ m, scaledMag m = n * 2 ^ j := by
  induction j generalizing n with
  | zero => exact ⟨n, by simpa using scaledMag_packed 0 n hn (.inl rfl)⟩
  | succ j ih =>
    rcases Nat.lt_or_ge n (2 ^ 23) with hlow | hhigh
    · obtain ⟨m, hm⟩ := ih (2 * n) (by omega)
      exact ⟨m, by rw [hm]; ring⟩
    · exact ⟨(j + 1) * 2 ^ 23 + n, scaledMag_packed (j + 1) n hn (.inr hhigh)⟩

/-! ### The nearest pattern -/

/-- m is the pattern nearest to the non-negative real x (in units of 2^-149), ties to even, and the infinity's from
the overflow bound on: the conditions of `RoundedTo` without the sign. -/
structure MagRounded (x : ℝ) (m : Nat) : Prop where
  finite_inside : x < overflowAt * 2 ^ 149 → m < infMag
  nearest : ∀ c, x < overflowAt * 2 ^ 149 → |(scaledMag m : ℝ) - x| ≤ |(scaledMag c : ℝ) - x|
  ties_even : ∀ c, x < overflowAt * 2 ^ 149 → scaledMag c ≠ scaledMag m →
    |(scaledMag c : ℝ) - x| = |(scaledMag m : ℝ) - x| → m % 2 = 0
  infinite_above : overflowAt * 2 ^ 149 ≤ x → m = infMag

theorem MagRounded.le_infMag {x : ℝ} {m : Nat} (h : MagRounded x m) : m ≤ infMag :=
  (lt_or_ge x (overflowAt * 2 ^ 149)).elim (fun hx => (h.finite_inside hx).le) (fun hx => (h.infinite_above hx).le)

theorem nearestEven_le (p : Nat) (o : Ordering) : nearestEven p o ≤ p + 1 := by
  cases o <;> simp only [nearestEven] <;> omega

theorem le_nearestEven (p : Nat) (o : Ordering) : p ≤ nearestEven p o := by
  cases o <;> simp only [nearestEven] <;> omega

/-- Rounding looks at the parity only, which the shift in a packed pattern does not change. -/
theorem nearestEven_add_shift (k q : Nat) (o : Ordering) :
    nearestEven (k * 2 ^ 23 + q) o = k * 2 ^ 23 + nearestEven q o := by
  cases o <;> simp only [nearestEven] <;> omega

section Bracket

variable {x : ℝ} {p : Nat} {o : Ordering} (hlo : (scaledMag p : ℝ) ≤ x) (hhi : x < scaledMag (p + 1))
  (ho : o.Compares (2 * x) (scaledMag p + scaledMag (p + 1)))
include hlo hhi ho

/-- No magnitude lies strictly between neighbours, so the nearer neighbour of x is nearest of all, and what is
equally near is met in a tie only. -/
theorem nearestEven_nearest (c : Nat) :
    |(scaledMag (nearestEven p o) : ℝ) - x| ≤ |(scaledMag c : ℝ) - x| ∧
    (scaledMag c ≠ scaledMag (nearestEven p o) →
      |(scaledMag c : ℝ) - x| = |(scaledMag (nearestEven p o) : ℝ) - x| → nearestEven p o % 2 = 0) := by
  have hp : |(scaledMag p : ℝ) - x| = x - scaledMag p := by rw [abs_sub_comm, abs_of_nonneg (by linarith)]
  have hp1 : |(scaledMag (p + 1) : ℝ) - x| = scaledMag (p + 1) - x := abs_of_pos (by linarith)
  have hc : (scaledMag c : ℝ) ≤ scaledMag p ∧ |(scaledMag c : ℝ) - x| = x - scaledMag c ∨
      (scaledMag (p + 1) : ℝ) ≤ scaledMag c ∧ |(scaledMag c : ℝ) - x| = scaledMag c - x := by
    rcases Nat.lt_or_ge p c with h | h
    · have hle : (scaledMag (p + 1) : ℝ) ≤ scaledMag c := Nat.cast_le.2 (scaledMag_strictMono.monotone h)
      exact .inr ⟨hle, abs_of_pos (by linarith)⟩
    · have hle : (scaledMag c : ℝ) ≤ scaledMag p := Nat.cast_le.2 (scaledMag_strictMono.monotone h)
      exact .inl ⟨hle, by rw [abs_sub_comm, abs_of_nonneg (by linarith)]⟩
  have hne {r : Nat} (h : scaledMag c ≠ scaledMag r) : (scaledMag c : ℝ) ≠ scaledMag r := Nat.cast_injective.ne h
  cases o with
  | lt =>
    have ho : 2 * x < scaledMag p + scaledMag (p + 1) := ho
    simp only [nearestEven, hp]
    rcases hc with ⟨hle, hd⟩ | ⟨hle, hd⟩ <;> rw [hd]
    · exact ⟨by linarith, fun h he => absurd (by linarith) (hne h)⟩
    · exact ⟨by linarith, fun _ he => by linarith⟩
  | gt =>
    have ho : scaledMag p + scaledMag (p + 1) < 2 * x := ho
    simp only [nearestEven, hp1]
    rcases hc with ⟨hle, hd⟩ | ⟨hle, hd⟩ <;> rw [hd]
    · exact ⟨by linarith, fun _ he => by linarith⟩
    · exact ⟨by linarith, fun h he => absurd (by linarith) (hne h)⟩
  | eq =>
    have ho : 2 * x = scaledMag p + scaledMag (p + 1) := ho
    simp only [nearestEven]
    refine ⟨?_, fun _ _ => by omega⟩
    have hd : |(scaledMag (p + p % 2) : ℝ) - x| = x - scaledMag p := by
      rcases Nat.mod_two_eq_zero_or_one p with h | h <;> rw [h]
      · exact hp
      · rw [hp1]; linarith
    rw [hd]
    rcases hc with ⟨hle, he⟩ | ⟨hle, he⟩ <;> rw [he] <;> linarith

/-- Below the overflow bound the rounded pattern is finite: from the largest finite one x rounds down. -/
theorem nearestEven_lt_infMag (hx : x < overflowAt * 2 ^ 149) : nearestEven p o < infMag := by
  have hlt : p < infMag := by
    rw [← scaledMag_strictMono.lt_iff_lt, ← Nat.cast_lt (α := ℝ)]
    exact (hlo.trans_lt hx).trans overflow_lt_infMag
  rcases Nat.lt_or_ge (p + 1) infMag with h | h
  · exact (nearestEven_le p o).trans_lt h
  · obtain rfl : p = infMag - 1 := by omega
    rw [largestFinite_add_infMag] at ho
    cases o with
    | lt => exact hlt
    | eq => exact absurd (show 2 * x = _ from ho) (by linarith)
    | gt => exact absurd (show _ < 2 * x from ho) (by linarith)

/-- From the overflow bound on the rounded pattern is the infinity's or beyond: the largest finite one is odd, so
the tie rounds up. -/
theorem infMag_le_nearestEven (hx : overflowAt * 2 ^ 149 ≤ x) : infMag ≤ nearestEven p o := by
  have hge : infMag - 1 < p + 1 := by
    rw [← scaledMag_strictMono.lt_iff_lt, ← Nat.cast_lt (α := ℝ)]
    exact (largestFinite_lt_overflow.trans_le hx).trans hhi
  rcases Nat.lt_or_ge p infMag with h | h
  · obtain rfl : p = infMag - 1 := by omega
    rw [largestFinite_add_infMag] at ho
    cases o with
    | lt => exact absurd (show 2 * x < _ from ho) (by linarith)
    | eq => exact le_rfl
    | gt => exact le_rfl
  · exact h.trans (le_nearestEven p o)

theorem magRounded_of_bracket : MagRounded x (min (nearestEven p o) infMag) := by
  have hfin (hx : x < overflowAt * 2 ^ 149) : min (nearestEven p o) infMag = nearestEven p o :=
    min_eq_left (nearestEven_lt_infMag hlo hhi ho hx).le
  refine ⟨fun hx => ?_, fun c hx => ?_, fun c hx => ?_,
    fun hx => min_eq_right (infMag_le_nearestEven hlo hhi ho hx)⟩
  · rw [hfin hx]; exact nearestEven_lt_infMag hlo hhi ho hx
  · rw [hfin hx]; exact (nearestEven_nearest hlo hhi ho c).1
  · rw [hfin hx]; exact (nearestEven_nearest hlo hhi ho c).2

end Bracket

/-! ### Finding the neighbours -/

/-- The shift leaves at most 24 bits, and 24 exactly where it shifts at all. -/
theorem shifted_lt (n : Nat) : n / 2 ^ roundShift n < 2 ^ 24 := by
  refine Nat.div_lt_of_lt_mul (Nat.lt_log2_self.trans_le ?_)
  rw [← pow_add]
  exact Nat.pow_le_pow_right two_pos (by unfold roundShift; omega)

theorem shift_zero_or_le_shifted (n : Nat) : roundShift n = 0 ∨ 2 ^ 23 ≤ n / 2 ^ roundShift n := by
  refine or_iff_not_imp_left.2 fun h => (Nat.le_div_iff_mul_le (by positivity)).2 ?_
  rw [← pow_add]
  unfold roundShift at h ⊢
  rw [show 23 + (n.log2 - 23) = n.log2 by omega]
  exact Nat.log2_self_le (by rintro rfl; simp at h)

/-- A real with integer part n rounds to the packed pattern of n's leading bits, rounded by the comparison of the
real with the middle of the neighbours. -/
theorem magRounded_packMag {x : ℝ} {n : Nat} {o : Ordering} (hlo : (n : ℝ) ≤ x) (hhi : x < n + 1)
    (ho : o.Compares (2 * x) ((2 * (n / 2 ^ roundShift n : Nat) + 1) * 2 ^ roundShift n)) :
    MagRounded x (packMag (roundShift n) (nearestEven (n / 2 ^ roundShift n) o)) := by
  have hq := shifted_lt n
  have hk := shift_zero_or_le_shifted n
  have hle : n / 2 ^ roundShift n * 2 ^ roundShift n ≤ n := Nat.div_mul_le_self _ _
  have hlt : n + 1 ≤ (n / 2 ^ roundShift n + 1) * 2 ^ roundShift n :=
    Nat.lt_mul_of_div_lt (Nat.lt_succ_self _) (by positivity)
  generalize n / 2 ^ roundShift n = q at *
  generalize roundShift n = k at *
  have hp := scaledMag_packed k q hq.le hk
  have hp1 : scaledMag (k * 2 ^ 23 + q + 1) = (q + 1) * 2 ^ k := by
    rw [Nat.add_assoc, scaledMag_packed k (q + 1) hq (by omega)]
  unfold packMag
  rw [← nearestEven_add_shift]
  refine magRounded_of_bracket ?_ ?_ ?_
  · rw [hp]; exact (Nat.cast_le.2 hle).trans hlo
  · rw [hp1]; exact hhi.trans_le (mod_cast hlt)
  · rw [hp, hp1]
    convert ho using 1
    push_cast
    ring

/-- Comparing integers compares reals whose difference has the same sign. -/
theorem compare_compares_of_sub_eq {a b : Nat} {x y c : ℝ} (hc : 0 < c) (h : (x - y) * c = (a : ℝ) - b) :
    (compare a b).Compares x y := by
  rcases lt_trichotomy a b with hab | rfl | hab
  · rw [compare_lt_iff_lt.2 hab]
    have : (a : ℝ) < b := Nat.cast_lt.2 hab
    show x < y
    nlinarith
  · rw [compare_eq_iff_eq.2 rfl]
    show x = y
    rw [sub_self, mul_eq_zero] at h
    exact sub_eq_zero.1 (h.resolve_right hc.ne')
  · rw [compare_gt_iff_gt.2 hab]
    have : (b : ℝ) < a := Nat.cast_lt.2 hab
    show y < x
    nlinarith

/-- `roundRatio` rounds the exact quotient. -/
theorem magRounded_roundRatio (num den : Nat) (hden : 0 < den) :
    MagRounded ((num : ℝ) / den) (roundRatio num den) := by
  have hd : (0 : ℝ) < den := Nat.cast_pos.2 hden
  have hfloor : ⌊(num : ℝ) / den⌋₊ = num / den := Nat.floor_div_eq_div num den
  unfold roundRatio
  dsimp only
  rw [← Nat.div_div_eq_div_mul]
  refine magRounded_packMag (by rw [← hfloor]; exact Nat.floor_le (by positivity))
    (by rw [← hfloor]; exact Nat.lt_floor_add_one _) (compare_compares_of_sub_eq hd ?_)
  generalize roundShift (num / den) = k
  have hdiv : ((den * 2 ^ k * (num / den / 2 ^ k) + num % (den * 2 ^ k) : Nat) : ℝ) = num := by
    rw [Nat.div_div_eq_div_mul, Nat.div_add_mod]
  push_cast at hdiv ⊢
  field_simp
  linarith

/-! ### The integer square root -/

/-- The bits below the k-th are chosen so that the root is exact: the invariant of the loop. -/
theorem isqrtFrom_spec (n k r : Nat) (hle : r * r ≤ n) (hlt : n < (r + 2 ^ k) * (r + 2 ^ k)) :
    isqrtFrom n k r * isqrtFrom n k r ≤ n ∧ n < (isqrtFrom n k r + 1) * (isqrtFrom n k r + 1) := by
  induction k generalizing r with
  | zero => exact ⟨hle, hlt⟩
  | succ k ih =>
    have hpow : r + 2 ^ (k + 1) = r + 2 ^ k + 2 ^ k := by ring
    unfold isqrtFrom
    split
    · exact ih _ ‹_› (hpow ▸ hlt)
    · exact ih r hle (not_le.1 ‹_›)

theorem isqrt_eq_sqrt (n : Nat) : isqrt n = Nat.sqrt n := by
  have hn : n < 2 ^ (Nat.log2 n / 2 + 1) * 2 ^ (Nat.log2 n / 2 + 1) := by
    rw [← pow_add]
    exact Nat.lt_log2_self.trans_le (Nat.pow_le_pow_right two_pos (by omega))
  exact Nat.eq_sqrt.2 (isqrtFrom_spec n _ 0 (by omega) (by simpa using hn))

/-- `roundSqrt` rounds the exact square root: squares compare as their roots do. -/
theorem magRounded_roundSqrt (n : Nat) : MagRounded (Real.sqrt n) (roundSqrt n) := by
  unfold roundSqrt
  dsimp only
  rw [isqrt_eq_sqrt]
  have hmid : (0 : ℝ) < (2 * (n.sqrt / 2 ^ roundShift n.sqrt : Nat) + 1) * 2 ^ roundShift n.sqrt := by positivity
  refine magRounded_packMag Real.nat_sqrt_le_real_sqrt Real.real_sqrt_lt_nat_sqrt_succ
    (compare_compares_of_sub_eq (c := 2 * Real.sqrt n + _) (add_pos_of_nonneg_of_pos (by positivity) hmid) ?_)
  have hsq : Real.sqrt n * Real.sqrt n = n := Real.mul_self_sqrt n.cast_nonneg
  push_cast
  linear_combination 4 * hsq

end Sys2Proof.Rounding
end

section
/-! # Patterns with a sign, and the f32 operations on them (00_scope.md R14, 20_memory.md R81)

An f32 is a sign and a magnitude pattern (`withSign_signBit_magBits`). A pattern rounded to a magnitude is, with the
sign, rounded to the signed real (`roundedTo_withSign`), so each operation on finite numbers is one use of the
rounding of quotients or roots. Zeros, infinities and NaNs are told apart by their magnitude patterns. -/

namespace Sys2Proof.FloatLaws

open Sys2Proof Sys2Proof.Machine Sys2Proof.Safety Sys2Proof.Rounding

/-! ### Sign and magnitude -/

theorem toNat_withSign (s : Bool) (m : Nat) (hm : m < 2 ^ 31) :
    (withSign s m).toNat = (if s then 2 ^ 31 + m else m) := by
  unfold withSign
  rw [BitVec.toNat_ofNat, Nat.mod_eq_of_lt]
  split <;> omega

@[simp] theorem signBit_withSign (s : Bool) (m : Nat) (hm : m < 2 ^ 31) : signBit (withSign s m) = s := by
  unfold signBit
  rw [toNat_withSign s m hm]
  cases s
  · exact decide_eq_false (by simpa using hm)
  · exact decide_eq_true (Nat.le_add_right _ _)

@[simp] theorem magBits_withSign (s : Bool) (m : Nat) (hm : m < 2 ^ 31) : magBits (withSign s m) = m := by
  unfold magBits
  rw [toNat_withSign s m hm]
  split <;> omega

theorem withSign_signBit_magBits (a : F32) : withSign (signBit a) (magBits a) = a := by
  have ha := a.isLt
  refine BitVec.eq_of_toNat_eq ?_
  unfold signBit magBits
  rw [toNat_withSign _ _ (Nat.mod_lt _ (by positivity))]
  split <;> simp only [decide_eq_true_eq] at * <;> omega

theorem isFinite_iff (a : F32) : isFinite a = true ↔ magBits a < infMag := decide_eq_true_iff

theorem isNaN_iff (a : F32) : isNaN a = true ↔ infMag < magBits a := decide_eq_true_iff

theorem isInf_eq_false_of_isFinite {a : F32} (h : isFinite a = true) : isInf a = false :=
  decide_eq_false ((isFinite_iff a).1 h).ne

theorem infMag_lt : infMag < 2 ^ 31 := by decide

/-- The zeros and infinities of the statements are the patterns of that sign. -/
theorem zeroOf_eq_withSign (s : Bool) : zeroOf s = withSign s 0 := by cases s <;> rfl

theorem infinityOf_eq_withSign (s : Bool) : infinityOf s = withSign s infMag := by cases s <;> rfl

@[simp] theorem signBit_infinityOf (s : Bool) : signBit (infinityOf s) = s := by cases s <;> decide
@[simp] theorem magBits_infinityOf (s : Bool) : magBits (infinityOf s) = infMag := by cases s <;> decide
@[simp] theorem isNaN_infinityOf (s : Bool) : isNaN (infinityOf s) = false := by cases s <;> decide
@[simp] theorem isInf_infinityOf (s : Bool) : isInf (infinityOf s) = true := by cases s <;> decide
@[simp] theorem isFinite_zeroOf (s : Bool) : isFinite (zeroOf s) = true := by cases s <;> decide
@[simp] theorem signBit_zeroOf (s : Bool) : signBit (zeroOf s) = s := by cases s <;> decide
@[simp] theorem magBits_zeroOf (s : Bool) : magBits (zeroOf s) = 0 := by cases s <;> decide
@[simp] theorem fneg_infinityOf (s : Bool) : fneg (infinityOf s) = infinityOf (!s) := by cases s <;> decide

/-! ### Values -/

/-- x with the sign s. -/
def signed (s : Bool) (x : ℝ) : ℝ := if s then -x else x

theorem abs_signed (s : Bool) (x : ℝ) : |signed s x| = |x| := by
  cases s
  · rfl
  · exact abs_neg x

theorem signed_sub (s : Bool) (x y : ℝ) : signed s x - signed s y = signed s (x - y) := by
  cases s
  · rfl
  · exact (neg_sub' x y).symm

theorem signed_mul (s t : Bool) (x y : ℝ) : signed s x * signed t y = signed (s != t) (x * y) := by
  cases s <;> cases t <;> simp [signed]

theorem signed_div (s t : Bool) (x y : ℝ) : signed s x / signed t y = signed (s != t) (x / y) := by
  cases s <;> cases t <;> simp [signed, neg_div, div_neg]

theorem signed_eq_zero_iff (s : Bool) (x : ℝ) : signed s x = 0 ↔ x = 0 := by
  rw [← abs_eq_zero, abs_signed, abs_eq_zero]

theorem value_add (a b : F32) : value a + value b = ((scaledInt a + scaledInt b : Int) : ℝ) / 2 ^ 149 := by
  rw [value_eq_scaledInt, value_eq_scaledInt, ← add_div, Int.cast_add]

theorem value_sub (a b : F32) : value a - value b = ((scaledInt a - scaledInt b : Int) : ℝ) / 2 ^ 149 := by
  rw [value_eq_scaledInt, value_eq_scaledInt, ← sub_div, Int.cast_sub]

theorem intCast_div_eq_zero_iff (n : Int) : (n : ℝ) / 2 ^ 149 = 0 ↔ n = 0 := by
  rw [div_eq_zero_iff, or_iff_left (by positivity), Int.cast_eq_zero]

/-- The value of a pattern is its magnitude with its sign, in units of 2^-149. -/
theorem value_eq_signed (a : F32) : value a = signed (signBit a) (scaled a) / 2 ^ 149 := by
  rw [value_eq_scaledInt, scaledInt]
  split <;> rename_i h <;> simp [signed, h]

theorem value_withSign (s : Bool) (m : Nat) (hm : m < 2 ^ 31) :
    value (withSign s m) = signed s (scaledMag m) / 2 ^ 149 := by
  rw [value_eq_signed, scaled_eq_scaledMag, signBit_withSign s m hm, magBits_withSign s m hm]

theorem scaled_eq_zero_iff (a : F32) : scaled a = 0 ↔ magBits a = 0 := scaledMag_eq_zero_iff (magBits a)

theorem value_eq_zero_iff (a : F32) : value a = 0 ↔ magBits a = 0 := by
  rw [value_eq_signed, div_eq_zero_iff, or_iff_left (by positivity), signed_eq_zero_iff, Nat.cast_eq_zero,
    scaled_eq_zero_iff]

theorem value_neg_iff (a : F32) : value a < 0 ↔ signBit a = true ∧ magBits a ≠ 0 := by
  have h : (0 : ℝ) < scaled a ↔ magBits a ≠ 0 := by
    rw [Nat.cast_pos, Nat.pos_iff_ne_zero, Ne, scaled_eq_zero_iff]
  rw [value_eq_signed, div_lt_iff₀ (by positivity), zero_mul, ← h]
  cases signBit a <;> simp [signed]

/-- The order of the values is the order of the patterns, both zeros in one place. -/
theorem scaledInt_lt_iff (a b : F32) : scaledInt a < scaledInt b ↔ orderKey a < orderKey b := by
  have hab : scaled a < scaled b ↔ magBits a < magBits b := scaledMag_strictMono.lt_iff_lt
  have hba : scaled b < scaled a ↔ magBits b < magBits a := scaledMag_strictMono.lt_iff_lt
  have ha := scaled_eq_zero_iff a
  have hb := scaled_eq_zero_iff b
  unfold scaledInt orderKey
  split <;> split <;> omega

theorem value_lt_iff (a b : F32) : value a < value b ↔ orderKey a < orderKey b := by
  rw [value_eq_scaledInt, value_eq_scaledInt, div_lt_div_iff_of_pos_right (by positivity), Int.cast_lt,
    scaledInt_lt_iff]

theorem value_le_iff (a b : F32) : value a ≤ value b ↔ orderKey a ≤ orderKey b := by
  rw [← not_lt, value_lt_iff, not_lt]

theorem value_eq_iff (a b : F32) : value a = value b ↔ orderKey a = orderKey b := by
  rw [le_antisymm_iff, value_le_iff, value_le_iff, ← le_antisymm_iff]

/-- A finite pattern lies strictly between the infinities. -/
theorem orderKey_lt_infMag {a : F32} (h : isFinite a = true) :
    -(infMag : Int) < orderKey a ∧ orderKey a < infMag := by
  have := (isFinite_iff a).1 h
  unfold orderKey
  split <;> omega

/-! ### Rounding with a sign -/

theorem overflowAt_pos : 0 < overflowAt := by
  unfold overflowAt
  norm_num

/-- Signed numbers are no nearer to each other than their magnitudes are. -/
theorem abs_sub_le_abs_signed_sub (s t : Bool) {x y : ℝ} (hx : 0 ≤ x) (hy : 0 ≤ y) :
    |y - x| ≤ |signed t y - signed s x| := by
  have h := abs_abs_sub_abs_le_abs_sub (signed t y) (signed s x)
  rwa [abs_signed, abs_signed, abs_of_nonneg hx, abs_of_nonneg hy] at h

/-- Numbers of unlike sign are as near as their magnitudes only where one of them is 0. -/
theorem mul_eq_zero_of_abs_signed_sub_eq {s t : Bool} {x y : ℝ} (hst : t ≠ s)
    (h : |signed t y - signed s x| = |y - x|) : x * y = 0 := by
  have hsq := (sq_eq_sq_iff_abs_eq_abs _ _).2 h
  cases s <;> cases t <;>
    simp only [signed, ne_eq, not_true_eq_false, if_true, Bool.false_eq_true, if_false] at hst hsq
  · linarith
  · linarith

/-- The distance of a pattern from a signed real, in units of 2^-149. -/
theorem abs_value_sub (c : F32) (s : Bool) (x : ℝ) :
    |value c - signed s x / 2 ^ 149| = |signed (signBit c) (scaledMag (magBits c)) - signed s x| / 2 ^ 149 := by
  rw [value_eq_signed, scaled_eq_scaledMag, ← sub_div, abs_div, abs_of_pos (by positivity : (0 : ℝ) < 2 ^ 149)]

theorem abs_value_withSign_sub (s : Bool) (x : ℝ) {m : Nat} (hm : m < 2 ^ 31) :
    |value (withSign s m) - signed s x / 2 ^ 149| = |(scaledMag m : ℝ) - x| / 2 ^ 149 := by
  rw [abs_value_sub, signBit_withSign s m hm, magBits_withSign s m hm, signed_sub, abs_signed]

section Signed

variable {x : ℝ} {m : Nat} (s : Bool) (hx : 0 ≤ x) (h : MagRounded x m) (hover : x < overflowAt * 2 ^ 149)
include hx h hover

/-- The numbers on the other side of zero are no nearer than those of the same magnitude on this side. -/
theorem withSign_nearest (c : F32) :
    |value (withSign s m) - signed s x / 2 ^ 149| ≤ |value c - signed s x / 2 ^ 149| := by
  rw [abs_value_withSign_sub s x (h.le_infMag.trans_lt infMag_lt), abs_value_sub]
  exact div_le_div_of_nonneg_right
    ((h.nearest _ hover).trans (abs_sub_le_abs_signed_sub s _ hx (Nat.cast_nonneg _))) (by positivity)

/-- A tie between numbers of one magnitude and unlike signs is the tie of the two zeros, whose magnitude is even. -/
theorem even_of_withSign_tie (c : F32) (hne : value c ≠ value (withSign s m))
    (heq : |value c - signed s x / 2 ^ 149| = |value (withSign s m) - signed s x / 2 ^ 149|) : m % 2 = 0 := by
  have hm : m < 2 ^ 31 := h.le_infMag.trans_lt infMag_lt
  rw [abs_value_withSign_sub s x hm, abs_value_sub, div_left_inj' (by positivity)] at heq
  by_cases hmag : scaledMag (magBits c) = scaledMag m
  · have hsign : signBit c ≠ s := fun hs => hne (by
      rw [value_eq_signed, value_withSign s m hm, scaled_eq_scaledMag, hs, hmag])
    rw [hmag] at heq
    have hzero : scaledMag m = 0 := by
      rcases mul_eq_zero.1 (mul_eq_zero_of_abs_signed_sub_eq hsign heq) with rfl | hz
      · simpa [scaledMag_zero] using h.nearest 0 hover
      · exact Nat.cast_eq_zero.1 hz
    rw [(scaledMag_eq_zero_iff m).1 hzero]
  · have hle := abs_sub_le_abs_signed_sub s (signBit c) hx (Nat.cast_nonneg (scaledMag (magBits c)))
    exact h.ties_even _ hover hmag (le_antisymm (hle.trans heq.le) (h.nearest _ hover))

end Signed

/-- Rounding the magnitude and putting the sign rounds the signed real. -/
theorem roundedTo_withSign {x : ℝ} {m : Nat} (s : Bool) (hx : 0 ≤ x) (h : MagRounded x m) :
    RoundedTo (signed s x / 2 ^ 149) (withSign s m) := by
  have hm : m < 2 ^ 31 := h.le_infMag.trans_lt infMag_lt
  have hunit : (0 : ℝ) < 2 ^ 149 := by positivity
  have hinside (hlt : |signed s x / 2 ^ 149| < overflowAt) : x < overflowAt * 2 ^ 149 := by
    rwa [abs_div, abs_signed, abs_of_nonneg hx, abs_of_pos hunit, div_lt_iff₀ hunit] at hlt
  have hpos := mul_pos overflowAt_pos hunit
  refine ⟨fun hlt => ?_, fun hlt c _ => withSign_nearest s hx h (hinside hlt) c, fun hlt c _ hne heq => ?_,
    fun habove => ?_, fun hbelow => ?_⟩
  · rw [isFinite_iff, magBits_withSign s m hm]
    exact h.finite_inside (hinside hlt)
  · have heven := even_of_withSign_tie s hx h (hinside hlt) c hne heq
    rw [toNat_withSign s m hm]
    split <;> omega
  · rw [le_div_iff₀ hunit] at habove
    cases s with
    | false => rw [h.infinite_above habove]; rfl
    | true => simp only [signed, if_true] at habove; linarith
  · rw [div_le_iff₀ hunit, neg_mul] at hbelow
    cases s with
    | false => simp only [signed, Bool.false_eq_true, if_false] at hbelow; linarith
    | true => rw [h.infinite_above (le_of_neg_le_neg hbelow)]; rfl

/-- Zero is its own rounding, with either sign. -/
theorem roundedTo_zero (s : Bool) : RoundedTo 0 (withSign s 0) := by
  have hzero : MagRounded 0 0 := by
    have hround : roundRatio 0 1 = 0 := by decide
    simpa [hround] using magRounded_roundRatio 0 1 one_pos
  simpa [signed] using roundedTo_withSign s le_rfl hzero

/-- The rounding of sums and differences: an exact integer, and zero with a sign of its own. -/
theorem roundedTo_int (n : Int) (z : Bool) :
    RoundedTo ((n : ℝ) / 2 ^ 149)
      (if n = 0 then withSign z 0 else withSign (decide (n < 0)) (roundRatio n.natAbs 1)) := by
  split
  · rename_i hn
    rw [hn, Int.cast_zero, zero_div]
    exact roundedTo_zero z
  · have hn : signed (decide (n < 0)) ((n.natAbs : ℝ) / (1 : Nat)) = n := by
      rw [Nat.cast_one, div_one, Nat.cast_natAbs, Int.cast_abs]
      unfold signed
      split <;> rename_i h <;> rw [decide_eq_true_eq] at h
      · rw [abs_of_neg (Int.cast_lt_zero.2 h), neg_neg]
      · rw [abs_of_nonneg (Int.cast_nonneg (not_lt.1 h))]
    have h := roundedTo_withSign (decide (n < 0)) (by positivity) (magRounded_roundRatio n.natAbs 1 one_pos)
    rwa [hn] at h

/-- The rounding of products and quotients: an exact ratio with a sign of its own. -/
theorem roundedTo_ratio (s : Bool) (num den : Nat) (hden : 0 < den) :
    RoundedTo (signed s ((num : ℝ) / den) / 2 ^ 149) (withSign s (roundRatio num den)) :=
  roundedTo_withSign s (by positivity) (magRounded_roundRatio num den hden)

theorem signBit_ratio (s : Bool) (num den : Nat) : signBit (withSign s (roundRatio num den)) = s :=
  signBit_withSign _ _ ((min_le_right _ _).trans_lt infMag_lt)

/-! ### The operations on finite numbers -/

section Finite

variable {a b : F32} (ha : isFinite a = true) (hb : isFinite b = true)
include ha hb

theorem fadd_of_finite :
    fadd a b = if scaledInt a + scaledInt b = 0 then withSign (signBit a && signBit b) 0
      else withSign (decide (scaledInt a + scaledInt b < 0)) (roundRatio (scaledInt a + scaledInt b).natAbs 1) := by
  simp [fadd, isFinite_not_nan, isInf_eq_false_of_isFinite, ha, hb]

theorem fsub_of_finite :
    fsub a b = if scaledInt a - scaledInt b = 0 then withSign (signBit a && !signBit b) 0
      else withSign (decide (scaledInt a - scaledInt b < 0)) (roundRatio (scaledInt a - scaledInt b).natAbs 1) := by
  simp [fsub, isFinite_not_nan, isInf_eq_false_of_isFinite, ha, hb]

theorem fmul_of_finite :
    fmul a b = withSign (signBit a != signBit b) (roundRatio (scaled a * scaled b) (2 ^ 149)) := by
  simp [fmul, isFinite_not_nan, isInf_eq_false_of_isFinite, ha, hb]

theorem fdiv_of_finite (h : magBits b ≠ 0) :
    fdiv a b = withSign (signBit a != signBit b) (roundRatio (scaled a * 2 ^ 149) (scaled b)) := by
  simp [fdiv, isFinite_not_nan, isInf_eq_false_of_isFinite, ha, hb, h]

theorem roundedTo_fadd : RoundedTo (value a + value b) (fadd a b) := by
  rw [fadd_of_finite ha hb, value_add]
  exact roundedTo_int _ _

theorem roundedTo_fsub : RoundedTo (value a - value b) (fsub a b) := by
  rw [fsub_of_finite ha hb, value_sub]
  exact roundedTo_int _ _

theorem roundedTo_fmul : RoundedTo (value a * value b) (fmul a b) := by
  have hval : value a * value b =
      signed (signBit a != signBit b) ((scaled a * scaled b : Nat) / (2 ^ 149 : Nat)) / 2 ^ 149 := by
    rw [value_eq_signed, value_eq_signed, div_mul_div_comm, signed_mul]
    push_cast
    unfold signed
    split <;> ring
  rw [fmul_of_finite ha hb, hval]
  exact roundedTo_ratio _ _ _ (by positivity)

theorem roundedTo_fdiv (h : magBits b ≠ 0) : RoundedTo (value a / value b) (fdiv a b) := by
  have hden : 0 < scaled b := Nat.pos_of_ne_zero ((scaled_eq_zero_iff b).not.2 h)
  have hval : value a / value b =
      signed (signBit a != signBit b) ((scaled a * 2 ^ 149 : Nat) / (scaled b : Nat)) / 2 ^ 149 := by
    rw [value_eq_signed, value_eq_signed, div_div_div_cancel_right₀ (by positivity), signed_div]
    push_cast
    unfold signed
    split <;> ring
  rw [fdiv_of_finite ha hb h, hval]
  exact roundedTo_ratio _ _ _ hden

theorem fadd_of_value_add_eq_zero (h : value a + value b = 0) : fadd a b = zeroOf (negative a && negative b) := by
  rw [value_add, intCast_div_eq_zero_iff] at h
  rw [fadd_of_finite ha hb, if_pos h, zeroOf_eq_withSign, negative_eq_signBit, negative_eq_signBit]

theorem fsub_of_value_sub_eq_zero (h : value a - value b = 0) : fsub a b = zeroOf (negative a && !negative b) := by
  rw [value_sub, intCast_div_eq_zero_iff] at h
  rw [fsub_of_finite ha hb, if_pos h, zeroOf_eq_withSign, negative_eq_signBit, negative_eq_signBit]

theorem negative_fmul : negative (fmul a b) = (negative a ^^ negative b) := by
  simp only [negative_eq_signBit]
  rw [fmul_of_finite ha hb, signBit_ratio]

theorem negative_fdiv (h : magBits b ≠ 0) : negative (fdiv a b) = (negative a ^^ negative b) := by
  simp only [negative_eq_signBit]
  rw [fdiv_of_finite ha hb h, signBit_ratio]

theorem flt_iff_value : flt a b = true ↔ value a < value b := by
  simp [flt_iff, isFinite_not_nan, ha, hb, value_lt_iff]

theorem fle_iff_value : fle a b = true ↔ value a ≤ value b := by
  simp [fle_iff, isFinite_not_nan, ha, hb, value_le_iff]

theorem feq_iff_value : feq a b = true ↔ value a = value b := by
  simp [feq_iff, isFinite_not_nan, ha, hb, value_eq_iff]

end Finite

end Sys2Proof.FloatLaws
end

section
/-! # Roots, integers, and operands that are no finite numbers (00_scope.md R14; logs 5 and 15)

With these the statements about the arithmetic (O59, O60) are assembled, one lemma a clause. -/

namespace Sys2Proof.FloatLaws

open Sys2Proof Sys2Proof.Machine Sys2Proof.Safety Sys2Proof.Rounding

/-! ### NaN operands -/

section NaN

variable {a b : F32} (h : isNaN a = true ∨ isNaN b = true)
include h

theorem isNaN_fadd_of_isNaN : isNaN (fadd a b) = true := by
  rw [fadd, if_pos (by simpa using h)]
  exact isNaN_nanOf _ _ _

theorem isNaN_fsub_of_isNaN : isNaN (fsub a b) = true := by
  rw [fsub, if_pos (by simpa using h)]
  exact isNaN_nanOf _ _ _

theorem isNaN_fmul_of_isNaN : isNaN (fmul a b) = true := by
  rw [fmul, if_pos (by simpa using h)]
  exact isNaN_nanOf _ _ _

theorem isNaN_fdiv_of_isNaN : isNaN (fdiv a b) = true := by
  rw [fdiv, if_pos (by simpa using h)]
  exact isNaN_nanOf _ _ _

theorem fle_eq_false_of_isNaN : fle a b = false := by
  rw [Bool.eq_false_iff, ne_eq, fle_iff]
  rintro ⟨ha, hb, -⟩
  simp [ha, hb] at h

theorem flt_eq_false_of_isNaN : flt a b = false := by
  rw [Bool.eq_false_iff, ne_eq, flt_iff]
  rintro ⟨ha, hb, -⟩
  simp [ha, hb] at h

theorem feq_eq_false_of_isNaN : feq a b = false := by
  rw [Bool.eq_false_iff, ne_eq, feq_iff]
  rintro ⟨ha, hb, -⟩
  simp [ha, hb] at h

end NaN

theorem isNaN_fsqrt_of_isNaN {a : F32} (h : isNaN a = true) : isNaN (fsqrt a) = true := by
  rw [fsqrt, if_pos h]
  exact isNaN_nanOf _ _ _

/-! ### Infinite operands -/

theorem infMag_ne_zero : infMag ≠ 0 := by decide

theorem orderKey_infinityOf (m : Bool) : orderKey (infinityOf m) = if m then -(infMag : Int) else infMag := by
  rw [orderKey, signBit_infinityOf, magBits_infinityOf]

section Infinite

variable {a : F32} (m : Bool) (ha : isFinite a = true)
include ha

theorem fadd_infinityOf_left : fadd (infinityOf m) a = infinityOf m := by
  simp [fadd, isFinite_not_nan, isInf_eq_false_of_isFinite, ha]

theorem fadd_infinityOf_right : fadd a (infinityOf m) = infinityOf m := by
  simp [fadd, isFinite_not_nan, isInf_eq_false_of_isFinite, ha]

theorem fsub_infinityOf_left : fsub (infinityOf m) a = infinityOf m := by
  simp [fsub, isFinite_not_nan, isInf_eq_false_of_isFinite, ha]

theorem fsub_infinityOf_right : fsub a (infinityOf m) = infinityOf (!m) := by
  simp [fsub, isFinite_not_nan, isInf_eq_false_of_isFinite, ha]

theorem fmul_infinityOf_left (hz : value a ≠ 0) : fmul (infinityOf m) a = infinityOf (m ^^ negative a) := by
  rw [Ne, value_eq_zero_iff] at hz
  rw [infinityOf_eq_withSign (m ^^ negative a), negative_eq_signBit]
  simp [fmul, isFinite_not_nan, ha, hz, infMag_ne_zero]

theorem fmul_infinityOf_right (hz : value a ≠ 0) : fmul a (infinityOf m) = infinityOf (m ^^ negative a) := by
  rw [Ne, value_eq_zero_iff] at hz
  rw [infinityOf_eq_withSign (m ^^ negative a), negative_eq_signBit, Bool.xor_comm]
  simp [fmul, isFinite_not_nan, ha, hz, infMag_ne_zero]

theorem fdiv_infinityOf_left : fdiv (infinityOf m) a = infinityOf (m ^^ negative a) := by
  rw [infinityOf_eq_withSign (m ^^ negative a), negative_eq_signBit]
  simp [fdiv, isFinite_not_nan, isInf_eq_false_of_isFinite, ha]

theorem fdiv_infinityOf_right : fdiv a (infinityOf m) = zeroOf (negative a ^^ m) := by
  simp [fdiv, isFinite_not_nan, isInf_eq_false_of_isFinite, ha, zeroOf_eq_withSign, negative_eq_signBit]

/-- A zero divisor, which R14 takes over from IEEE-754 (log 15). -/
theorem fdiv_zeroOf_right (hz : value a ≠ 0) : fdiv a (zeroOf m) = infinityOf (negative a ^^ m) := by
  rw [Ne, value_eq_zero_iff] at hz
  simp [fdiv, isFinite_not_nan, isInf_eq_false_of_isFinite, ha, hz, infinityOf_eq_withSign, negative_eq_signBit]

/-- Each finite number stands above the negative infinity and below the positive one. -/
theorem compare_infinityOf_right :
    flt a (infinityOf m) = !m ∧ fle a (infinityOf m) = !m ∧ feq a (infinityOf m) = false := by
  have hkey := orderKey_lt_infMag ha
  simp only [flt, fle, feq, isFinite_not_nan a ha, isNaN_infinityOf, orderKey_infinityOf, Bool.not_false,
    Bool.true_and]
  cases m <;> simp <;> omega

theorem compare_infinityOf_left :
    flt (infinityOf m) a = m ∧ fle (infinityOf m) a = m ∧ feq (infinityOf m) a = false := by
  have hkey := orderKey_lt_infMag ha
  simp only [flt, fle, feq, isFinite_not_nan a ha, isNaN_infinityOf, orderKey_infinityOf, Bool.not_false,
    Bool.true_and]
  cases m <;> simp <;> omega

end Infinite

theorem fmul_infinityOf_infinityOf (m n : Bool) : fmul (infinityOf m) (infinityOf n) = infinityOf (m ^^ n) := by
  cases m <;> cases n <;> decide

theorem isNaN_fmul_infinityOf_zeroOf (m n : Bool) : isNaN (fmul (infinityOf m) (zeroOf n)) = true := by
  simp [fmul, isFinite_not_nan, isNaN_nanOf]

theorem isNaN_fmul_zeroOf_infinityOf (m n : Bool) : isNaN (fmul (zeroOf n) (infinityOf m)) = true := by
  simp [fmul, isFinite_not_nan, isNaN_nanOf]

theorem fadd_infinityOf_same (m : Bool) : fadd (infinityOf m) (infinityOf m) = infinityOf m := by
  simp [fadd]

theorem isNaN_fadd_infinityOf_opposite (m : Bool) : isNaN (fadd (infinityOf m) (infinityOf (!m))) = true := by
  simp [fadd, isNaN_nanOf]

theorem fsub_infinityOf_opposite (m : Bool) : fsub (infinityOf m) (infinityOf (!m)) = infinityOf m := by
  simp [fsub]

theorem isNaN_fsub_infinityOf_same (m : Bool) : isNaN (fsub (infinityOf m) (infinityOf m)) = true := by
  simp [fsub, isNaN_nanOf]

theorem isNaN_fdiv_zeroOf_zeroOf (m n : Bool) : isNaN (fdiv (zeroOf m) (zeroOf n)) = true := by
  simp [fdiv, isFinite_not_nan, isInf_eq_false_of_isFinite, isNaN_nanOf]

theorem isNaN_fdiv_infinityOf_infinityOf (m n : Bool) : isNaN (fdiv (infinityOf m) (infinityOf n)) = true := by
  simp [fdiv, isNaN_nanOf]

theorem compare_infinityOf_infinityOf (m n : Bool) :
    flt (infinityOf m) (infinityOf n) = (m && !n) ∧ fle (infinityOf m) (infinityOf n) = (m || !n) ∧
    feq (infinityOf m) (infinityOf n) = (m == n) := by
  cases m <;> cases n <;> decide

/-! ### Roots and integers -/

theorem isNaN_fsqrt_of_neg {a : F32} (h : value a < 0) : isNaN (fsqrt a) = true := by
  obtain ⟨hs, hm⟩ := (value_neg_iff a).1 h
  by_cases hn : isNaN a = true
  · exact isNaN_fsqrt_of_isNaN hn
  · rw [fsqrt, if_neg hn, if_neg hm, if_pos hs]
    exact isNaN_nanOf _ _ _

theorem fsqrt_zeroOf (m : Bool) : fsqrt (zeroOf m) = zeroOf m := by
  simp [fsqrt, isFinite_not_nan]

theorem isNaN_fsqrt_infinityOf_true : isNaN (fsqrt (infinityOf true)) = true := by
  simp [fsqrt, infMag_ne_zero, isNaN_nanOf]

theorem roundedTo_fsqrt {a : F32} (ha : isFinite a = true) (hnn : 0 ≤ value a) :
    RoundedTo (Real.sqrt (value a)) (fsqrt a) := by
  by_cases hz : magBits a = 0
  · have hsqrt : fsqrt a = withSign (signBit a) 0 := by
      rw [← hz, withSign_signBit_magBits]
      simp [fsqrt, isFinite_not_nan, ha, hz]
    rw [hsqrt, (value_eq_zero_iff a).2 hz, Real.sqrt_zero]
    exact roundedTo_zero _
  · have hs : signBit a = false := Bool.eq_false_iff.2 fun hs => not_lt.2 hnn ((value_neg_iff a).2 ⟨hs, hz⟩)
    have hsqrt : fsqrt a = withSign false (roundSqrt (scaled a * 2 ^ 149)) := by
      simp [fsqrt, isFinite_not_nan, isInf_eq_false_of_isFinite, ha, hz, hs]
    have hscaled : ((scaled a * 2 ^ 149 : Nat) : ℝ) = value a * (2 ^ 149) ^ 2 := by
      rw [value_eq_signed, hs, signed]
      push_cast
      ring
    have hval : Real.sqrt (value a) = signed false (Real.sqrt (scaled a * 2 ^ 149 : Nat)) / 2 ^ 149 := by
      rw [hscaled, Real.sqrt_mul hnn, Real.sqrt_sq (by positivity), signed]
      exact (mul_div_cancel_right₀ _ (by positivity)).symm
    rw [hsqrt, hval]
    exact roundedTo_withSign false (Real.sqrt_nonneg _) (magRounded_roundSqrt _)

/-- What is a magnitude already rounds to itself. -/
theorem scaledMag_eq_of_magRounded {x : ℝ} {m c : Nat} (h : MagRounded x m) (hx : x < overflowAt * 2 ^ 149)
    (hc : (scaledMag c : ℝ) = x) : (scaledMag m : ℝ) = x := by
  have := h.nearest c hx
  rwa [hc, sub_self, abs_zero, abs_nonpos_iff, sub_eq_zero] at this

/-- An integer of at most 24 bits, or 2^24, is an f32 (R318). -/
theorem value_fofNat {n : Nat} (hn : n ≤ 2 ^ 24) : isFinite (fofNat n) = true ∧ value (fofNat n) = n := by
  have hround := magRounded_roundRatio (n * 2 ^ 149) 1 one_pos
  have hm := hround.le_infMag.trans_lt infMag_lt
  have hx : ((n * 2 ^ 149 : Nat) : ℝ) = n * 2 ^ 149 := by rw [Nat.cast_mul, Nat.cast_pow, Nat.cast_ofNat]
  have hover : (n : ℝ) * 2 ^ 149 < overflowAt * 2 ^ 149 := by
    have hn' : (n : ℝ) ≤ 2 ^ 24 := mod_cast hn
    have hbound : (2 : ℝ) ^ 24 < overflowAt := by
      unfold overflowAt
      norm_num
    exact mul_lt_mul_of_pos_right (hn'.trans_lt hbound) (by positivity)
  obtain ⟨c, hc⟩ := exists_scaledMag_eq 149 n hn
  rw [Nat.cast_one, div_one, hx] at hround
  have hexact := scaledMag_eq_of_magRounded hround hover (by rw [hc, hx])
  unfold fofNat
  rw [isFinite_iff, magBits_withSign _ _ hm, value_withSign _ _ hm, hexact]
  exact ⟨hround.finite_inside hover, mul_div_cancel_right₀ _ (by positivity)⟩

/-! ### Classes -/

theorem isFinite_iff_exponent (a : F32) : isFinite a = true ↔ a.toNat / 2 ^ 23 % 256 ≠ 255 := by
  rw [isFinite_iff, magBits, infMag]
  omega

theorem isNaN_iff_exponent (a : F32) :
    isNaN a = true ↔ a.toNat / 2 ^ 23 % 256 = 255 ∧ a.toNat % 2 ^ 23 ≠ 0 := by
  rw [isNaN_iff, magBits, infMag]
  omega

/-! ### The statements -/

/-- Settles O59: the finite clauses by the rounding of an exact integer or ratio, the rest by the classes of the
operands. -/
theorem floatAddMulAndCompare : Obligations.FloatAddMulAndCompare := by
  refine ⟨fun a b ha hb => ?_, fun a b h => ?_, fun m n a ha => ?_, fun m => ?_, fun m a ha => ?_,
    compare_infinityOf_infinityOf, fun a b => ⟨rfl, rfl⟩, fun a => ⟨isFinite_iff_exponent a, isNaN_iff_exponent a⟩⟩
  · exact ⟨roundedTo_fadd ha hb, roundedTo_fsub ha hb, roundedTo_fmul ha hb, fadd_of_value_add_eq_zero ha hb,
      fsub_of_value_sub_eq_zero ha hb, negative_fmul ha hb, flt_iff_value ha hb, fle_iff_value ha hb,
      feq_iff_value ha hb⟩
  · exact ⟨isNaN_fadd_of_isNaN h, isNaN_fsub_of_isNaN h, isNaN_fmul_of_isNaN h, flt_eq_false_of_isNaN h,
      fle_eq_false_of_isNaN h, flt_eq_false_of_isNaN h.symm, fle_eq_false_of_isNaN h.symm, feq_eq_false_of_isNaN h⟩
  · exact ⟨fadd_infinityOf_left m ha, fadd_infinityOf_right m ha, fsub_infinityOf_left m ha,
      fsub_infinityOf_right m ha, fun hz => ⟨fmul_infinityOf_left m ha hz, fmul_infinityOf_right m ha hz⟩,
      isNaN_fmul_infinityOf_zeroOf m n, isNaN_fmul_zeroOf_infinityOf m n, fmul_infinityOf_infinityOf m n⟩
  · exact ⟨fadd_infinityOf_same m, isNaN_fadd_infinityOf_opposite m, fsub_infinityOf_opposite m,
      isNaN_fsub_infinityOf_same m⟩
  · obtain ⟨hlt, hle, heq⟩ := compare_infinityOf_right m ha
    obtain ⟨hlt', hle', heq'⟩ := compare_infinityOf_left m ha
    exact ⟨hlt, hlt', hle, hle', heq, heq'⟩

/-- Settles O60: quotients and roots by the rounding of an exact ratio or root, the rest by the classes of the
operands. -/
theorem floatDivAndSqrt : Obligations.FloatDivAndSqrt := by
  refine ⟨fun a b ha hb hz => ?_, fun a ha hnn => roundedTo_fsqrt ha hnn, fun m n a ha => ?_, fsqrt_zeroOf,
    by decide, isNaN_fsqrt_infinityOf_true, fun a _ h => isNaN_fsqrt_of_neg h, fun a b h => isNaN_fdiv_of_isNaN h,
    fun a h => isNaN_fsqrt_of_isNaN h, fun n hn => value_fofNat hn⟩
  · have hmag := (value_eq_zero_iff b).not.1 hz
    exact ⟨roundedTo_fdiv ha hb hmag, negative_fdiv ha hb hmag⟩
  · exact ⟨fdiv_zeroOf_right m ha, isNaN_fdiv_zeroOf_zeroOf m n, fdiv_infinityOf_left m ha,
      fdiv_infinityOf_right m ha, isNaN_fdiv_infinityOf_infinityOf m n⟩

end Sys2Proof.FloatLaws
end

section
/-! # What commands and steps leave of a state (10_state.md R53, 45_control.md R311)

`Effect` sorts the answers of all commands by the unit they change, and `WriteEffect` the register writes, so that a
claim about every command or write is a case split over the effects. `KeptByEvents` packages the induction for state
invariants: one that every effect, register write and reset keeps is kept by every step. -/

namespace Sys2Proof.StateLaws

open Sys2Proof Sys2Proof.Machine Sys2Proof.Safety

/-! ### Commands -/

/-- What a command can leave of a state. -/
inductive Effect (s : State) : Instr → State → Prop
  /-- nothing changes -/
  | unchanged (i : Instr) : Effect s i s
  /-- an error is recorded, and nothing else changes (R403) -/
  | failed (i : Instr) (c : ErrorCode) (hc : c ≠ .noError) : Effect s i (s.recordError c)
  /-- all units are reset (R312) -/
  | unitsReset : Effect s .softReset s.unitReset
  /-- the scrambler is loaded (R141) -/
  | scramblerLoaded : Effect s .scrReset (s.setScr loadedScrambler)
  /-- the scrambler moves by n positions, and point, RESULT and SOFT are written (R147, R174, R175, R203) -/
  | computed (i : Instr) (n : Nat) (p : Cplx) (soft : F32) (tribit index strib cls : Nat) :
      Effect s i { ((s.setScr (scrAdvance n (s.scr, 0)).1).setPoint p).setResult tribit index strib cls with
        soft := soft }
  /-- the synchronizer is reset and takes the gains (R222) -/
  | configured (hcfg : validCfg s.zeta s.omega = true) :
      Effect s .syncCfg (s.setSync { syncReset s.sync with
        alpha := (gains s.zeta s.omega).a, beta := (gains s.zeta s.omega).b, cfgValid := true })
  /-- the synchronizer is reset and left unconfigured (R222) -/
  | configRejected :
      Effect s .syncCfg ((s.setSync { syncReset s.sync with
        alpha := fzero, beta := fzero, cfgValid := false }).recordError .cfgInvalid)
  /-- the synchronizer is reset (R226) -/
  | synchronizerReset : Effect s .syncReset (s.setSync (syncReset s.sync))
  /-- the synchronizer takes a sample (R228) -/
  | samplePushed (hx : validSample s.sample = true) (emitted clamped : Bool) :
      Effect s .syncPush (((s.setSync (pushSample s.sync s.sample).sync).raiseEvent emitted symEv).raiseEvent
        clamped divEv)
  /-- the correlator is reset (R272) -/
  | correlatorReset : Effect s .corrReset (s.setCorr (corrReset s.corr))
  /-- the window takes a sample (R274) -/
  | sampleAppended (hx : validSample s.sample = true) :
      Effect s .corrPush (s.setCorr (corrAppend s.corr s.sample))
  /-- the sweep reports one of its candidates (R278) -/
  | swept (tau : Nat) (conf : F32) (acq : Bool) (htau : 1 ≤ s.searchLen → tau < s.searchLen) :
      Effect s .corrSweep ((s.setCorr { s.corr with
        best := tau, conf := conf, acq := acq, sweepValid := true }).raiseEvent acq acqEv)

/-- The result is a next state that the command `i` can leave. -/
def HasEffect (s : State) (i : Instr) (r : Result) : Prop := ∃ t, r = .next t ∧ Effect s i t

theorem HasEffect.next {s t : State} {i : Instr} (h : Effect s i t) : HasEffect s i (.next t) := ⟨t, rfl, h⟩

theorem HasEffect.raiseError {s : State} {i : Instr} {c : ErrorCode} (hc : c ≠ .noError) :
    HasEffect s i (raiseError c s) := .next (.failed i c hc)

theorem HasEffect.ite {s : State} {i : Instr} {p : Prop} [Decidable p] {a b : Result}
    (ha : p → HasEffect s i a) (hb : ¬p → HasEffect s i b) : HasEffect s i (if p then a else b) := by
  split
  · exact ha ‹_›
  · exact hb ‹_›

/-- A sweep over at least one offset picks one of them (R278). -/
theorem sweepResult_tbest_lt (s : State) (h : 1 ≤ s.searchLen) : s.sweepResult.tbest < s.searchLen := by
  obtain ⟨n, hn⟩ : ∃ n, s.searchLen = n + 1 := ⟨s.searchLen - 1, by omega⟩
  obtain ⟨tau, hlt, heq, -⟩ :=
    sweepSearch_spec (conf s.corr s.sps s.template (templateEnergy s.template)) n
  simp only [State.sweepResult, hn, heq]
  exact hlt

/-- Every command has one of the effects. -/
theorem exec_hasEffect (i : Instr) (s : State) : HasEffect s i (exec i s) := by
  have hcomputed (n : Nat) (p : Cplx) (soft : F32) (tribit index strib cls : Nat) :=
    HasEffect.next (Effect.computed (s := s) i n p soft tribit index strib cls)
  cases i with
  | nop => exact .next (.unchanged _)
  | softReset => exact .next .unitsReset
  | scrReset => exact .next .scramblerLoaded
  | scrNext => exact hcomputed 1 s.point s.soft 0 0 _ 0
  | scrAdvance count => exact .ite (fun _ => .next (.unchanged _)) fun _ => hcomputed count s.point s.soft 0 0 _ 0
  | mapEnc d st => exact .ite (fun _ => .raiseError nofun) fun _ => hcomputed 0 _ s.soft d _ st 0
  | mapDec st => exact .ite (fun _ => hcomputed 0 s.point _ _ _ st 0) fun _ => .raiseError nofun
  | txSym d => exact .ite (fun _ => .raiseError nofun) fun _ => hcomputed 1 _ s.soft d _ _ 0
  | rxSym => exact .ite (fun _ => hcomputed 1 s.point _ _ _ _ 0) fun _ => .raiseError nofun
  | layoutClass pos =>
    have hres (index strib cls : Nat) : HasEffect s (.layoutClass pos) (.next (s.setResult 0 index strib cls)) :=
      hcomputed 0 s.point s.soft 0 index strib cls
    exact .ite (fun _ => .raiseError nofun) fun _ => .ite (fun _ => hres ..) fun _ => hres ..
  | syncCfg => exact .ite (fun h => .next (.configured h)) fun _ => .next .configRejected
  | syncReset => exact .next .synchronizerReset
  | syncPush =>
    exact .ite (fun _ => .raiseError nofun) fun _ => .ite (fun _ => .raiseError nofun) fun h =>
      .next (.samplePushed (by simpa using h) _ _)
  | corrReset => exact .next .correlatorReset
  | corrPush => exact .ite (fun h => .next (.sampleAppended h)) fun _ => .raiseError nofun
  | corrSweep =>
    exact .ite (fun _ => .raiseError nofun) fun _ => .ite (fun _ => .raiseError nofun) fun _ =>
      .next (.swept _ _ _ (sweepResult_tbest_lt s))

/-- What a command answers is one of its effects. -/
theorem effect_of_exec {i : Instr} {s t : State} (h : exec i s = .next t) : Effect s i t := by
  obtain ⟨u, hu, he⟩ := exec_hasEffect i s
  obtain rfl : u = t := Host.Outcome.next.inj (hu.symm.trans h)
  exact he

/-! ### Register writes -/

/-- What a write of v to a register can leave of an idle block (R314). -/
inductive WriteEffect (s : State) (v : Word) : Reg → State → Prop
  /-- a register without validation takes the value, or nothing changes (R84, R317, R322) -/
  | stored (r : Reg) (irqEn : BitVec 4) (zeta omega sampI sampQ ptI ptQ : F32) :
      WriteEffect s v r { s with
        irqEn := irqEn, zeta := zeta, omega := omega, sampI := sampI, sampQ := sampQ, ptI := ptI, ptQ := ptQ }
  /-- the command word is issued (R311) -/
  | issued : WriteEffect s v .cmd (s.issue v)
  /-- the error and the divergence are acknowledged (R315) -/
  | statusCleared : WriteEffect s v .status (s.statusW1c v)
  /-- events are acknowledged (R316) -/
  | eventsCleared : WriteEffect s v .irqPend (s.irqAck v)
  /-- an illegal value is not taken (R318 to R321) -/
  | rejected (r : Reg) (c : ErrorCode) (hc : c ≠ .noError) : WriteEffect s v r (s.recordError c)
  /-- a legal MODE: a unit reset, and W from the new SPS (R318) -/
  | modeTaken (hlow : 4 ≤ bits v 15 8) (hhigh : bits v 15 8 ≤ 64) (w : F32)
      (hw : w = fdiv ftwo (fofNat { s with mode := v &&& 0x0000FF01 }.sps)) :
      WriteEffect s v .mode { s.unitReset with
        mode := v &&& 0x0000FF01, sync := { syncReset s.sync with w := w } }
  /-- a legal LAYOUT: the same (R318) -/
  | layoutTaken (hrun : 1 ≤ bits v 7 0 + bits v 15 8) (hmf : 1 ≤ bits v 23 16) (w : F32)
      (hw : w = fdiv ftwo (fofNat s.sps)) :
      WriteEffect s v .layout { s.unitReset with
        layout := v &&& 0x00FFFFFF, sync := { syncReset s.sync with w := w } }
  /-- a legal TPL (R319) -/
  | tplTaken (hlow : 1 ≤ bits v 24 16) (hhigh : bits v 24 16 ≤ 256) :
      WriteEffect s v .tpl { s with tpl := v &&& 0x01FFFFFF }
  /-- a legal SEARCH (R320) -/
  | searchTaken (hlow : 1 ≤ bits v 12 0) (hhigh : bits v 12 0 ≤ 4096) :
      WriteEffect s v .search { s with search := BitVec.ofNat 32 (bits v 12 0) }
  /-- a legal CORR_THRESH (R321) -/
  | threshTaken (hv : validThresh v = true) : WriteEffect s v .corrThresh { s with corrThresh := v }

theorem WriteEffect.of_eq {s t u : State} {v : Word} {r : Reg} (h : WriteEffect s v r t) (hu : u = t) :
    WriteEffect s v r u := hu ▸ h

/-- Every register write has one of the effects. -/
theorem writeReg_effect (r : Reg) (v : Word) (s : State) : WriteEffect s v r (writeReg r v s) := by
  have hstored (irqEn : BitVec 4) (zeta omega sampI sampQ ptI ptQ : F32) :=
    WriteEffect.stored (s := s) (v := v) r irqEn zeta omega sampI sampQ ptI ptQ
  cases r with
  | cmd => exact .issued
  | status => exact .statusCleared
  | irqPend => exact .eventsCleared
  | mode =>
    obtain ⟨-, h⟩ | ⟨hlow, hhigh, h⟩ := modeWrite_cases v s
    · exact (WriteEffect.rejected _ .modeInvalid nofun).of_eq h
    · exact (WriteEffect.modeTaken hlow hhigh _ rfl).of_eq h
  | layout =>
    obtain ⟨-, h⟩ | ⟨hrun, hmf, h⟩ := layoutWrite_cases v s
    · exact (WriteEffect.rejected _ .modeInvalid nofun).of_eq h
    · exact (WriteEffect.layoutTaken hrun hmf _ rfl).of_eq h
  | tpl =>
    obtain ⟨-, h⟩ | ⟨hlow, hhigh, h⟩ := tplWrite_cases v s
    · exact (WriteEffect.rejected _ .argRange nofun).of_eq h
    · exact (WriteEffect.tplTaken hlow hhigh).of_eq h
  | search =>
    obtain ⟨-, h⟩ | ⟨hlow, hhigh, h⟩ := searchWrite_cases v s
    · exact (WriteEffect.rejected _ .argRange nofun).of_eq h
    · exact (WriteEffect.searchTaken hlow hhigh).of_eq h
  | corrThresh =>
    obtain ⟨-, h⟩ | ⟨hv, h⟩ := threshWrite_cases v s
    · exact (WriteEffect.rejected _ .argRange nofun).of_eq h
    · exact (WriteEffect.threshTaken hv).of_eq h
  | irqEn => exact hstored (v.setWidth 4) s.zeta s.omega s.sampI s.sampQ s.ptI s.ptQ
  | zeta => exact hstored s.irqEn v s.omega s.sampI s.sampQ s.ptI s.ptQ
  | omega => exact hstored s.irqEn s.zeta v s.sampI s.sampQ s.ptI s.ptQ
  | sampI => exact hstored s.irqEn s.zeta s.omega v s.sampQ s.ptI s.ptQ
  | sampQ => exact hstored s.irqEn s.zeta s.omega s.sampI v s.ptI s.ptQ
  | ptI => exact hstored s.irqEn s.zeta s.omega s.sampI s.sampQ v s.ptQ
  | ptQ => exact hstored s.irqEn s.zeta s.omega s.sampI s.sampQ s.ptI v
  | _ => exact hstored s.irqEn s.zeta s.omega s.sampI s.sampQ s.ptI s.ptQ

/-! ### Steps -/

/-- The property is kept by everything that happens to the block between two steps. -/
structure KeptByEvents (P : State → Prop) : Prop where
  /-- it does not speak of the model's own fields (logs 1, 3, 4) -/
  queue : ∀ (s : State) (inbox : List Event) (replies : List Word) (n : Nat), P s →
    P { s with inbox := inbox, replies := replies, freeCount := n }
  hardReset : ∀ s : State, P s.hardReset
  retire : ∀ s : State, P s → P s.retire
  effect : ∀ (s t : State) (i : Instr), P s → Effect s i t → P t
  write : ∀ (s t : State) (r : Reg) (v : Word), P s → WriteEffect s v r t → P t

namespace KeptByEvents

variable {P : State → Prop} {s t : State}

protected theorem taken (hP : KeptByEvents P) (hs : P s) : P s.taken := hP.queue s s.inbox.tail s.replies s.freeCount hs

protected theorem recordError (hP : KeptByEvents P) {c : ErrorCode} (hc : c ≠ .noError) (hs : P s) :
    P (s.recordError c) :=
  hP.effect s _ .nop hs (.failed _ c hc)

protected theorem complete (hP : KeptByEvents P) (hs : P s) (h : complete s = .next t) : P t := by
  obtain ⟨-, rfl⟩ | ⟨w, -, ⟨e, -, rfl⟩ | ⟨i, -, hexec⟩⟩ := complete_cases s t h
  · exact hs
  · exact hP.recordError nofun (hP.retire s hs)
  · exact hP.effect _ t i (hP.retire s hs) (effect_of_exec hexec)

protected theorem hostRead (hP : KeptByEvents P) {width : AccessWidth} {off : Nat} (hs : P s)
    (h : hostRead width off s = .next t) : P t := by
  obtain ⟨-, ⟨-, -, rfl⟩ | ⟨-, rfl⟩⟩ := hostRead_cases width off s t h
  · exact hP.queue s s.inbox _ _ hs
  · exact hP.queue s s.inbox _ s.freeCount hs

protected theorem hostWrite (hP : KeptByEvents P) {width : AccessWidth} {off : Nat} {v : Word} (hs : P s)
    (h : hostWrite width off v s = .next t) : P t := by
  obtain ⟨-, ⟨-, rfl⟩ | ⟨-, r, -, rfl⟩ | ⟨-, -, rfl⟩⟩ := hostWrite_cases width off v s t h
  · exact hP.recordError nofun hs
  · exact hP.write s _ r v hs (writeReg_effect r v s)
  · exact hs

/-- A property that every event keeps is kept by every step. -/
protected theorem step (hP : KeptByEvents P) (hs : P s) (h : step s = .next t) : P t := by
  obtain ⟨-, h⟩ | ⟨-, h⟩ | ⟨-, rfl⟩ | ⟨width, off, -, h⟩ | ⟨width, off, v, -, h⟩ := step_cases s t h
  · exact hP.complete hs h
  · exact hP.complete (hP.taken hs) h
  · exact hP.hardReset s.taken
  · exact hP.hostRead (hP.taken hs) h
  · exact hP.hostWrite (hP.taken hs) h

end KeptByEvents

end Sys2Proof.StateLaws
end

section
/-! # Flags, the command in flight, and the gains (10_state.md R33, R55, 43_synchronizer.md R224)

Who may clear a flag (O52), who may change the gains (O53), and what ties the control fields together (O58). -/

namespace Sys2Proof.StateLaws

open Sys2Proof Sys2Proof.Machine Sys2Proof.Safety

/-! ### Bits and offsets -/

/-- A bit of a word by division, as the model reads it, is the bit of the bit vector (R11). -/
theorem bit_eq_getLsbD (v : Word) (i : Nat) : bit v i = v.getLsbD i := by
  rw [bit, BitVec.getLsbD, Nat.testBit_eq_decide_div_mod_eq]

/-- Each register has one word-aligned offset (R32). -/
theorem eq_of_regAt_eq {off off' : Nat} {r : Reg} (h : regAt off = some r) (h' : regAt off' = some r)
    (ha : off % 4 = 0) (ha' : off' % 4 = 0) : off = off' := by
  have hlt : off / 4 < regOrder.length := (List.getElem?_eq_some_iff.1 h).1
  have hquot : off / 4 = off' / 4 :=
    (List.getElem?_inj hlt (by decide : regOrder.Nodup)).1 (h.trans h'.symm)
  omega

/-! ### Who may clear a flag (R55, R410, R414) -/

/-- No flag that is set in s is clear in t. -/
structure FlagsKept (s t : State) : Prop where
  err : s.err = true → t.err = true
  diverged : s.sync.diverged = true → t.sync.diverged = true
  events : ∀ b, s.irqPend.getLsbD b = true → t.irqPend.getLsbD b = true

theorem FlagsKept.refl (s : State) : FlagsKept s s := ⟨id, id, fun _ => id⟩

/-- Where the pending events of s are among those of t, none of them falls. -/
theorem getLsbD_of_and_eq {p q : BitVec 4} (h : p &&& q = p) (b : Nat) (hb : p.getLsbD b = true) :
    q.getLsbD b = true := by
  rw [← h, BitVec.getLsbD_and, Bool.and_eq_true] at hb
  exact hb.2

theorem FlagsKept.recordError (s : State) (c : ErrorCode) : FlagsKept s (s.recordError c) :=
  ⟨fun _ => rfl, id, getLsbD_of_and_eq (recordError_keeps_events s c)⟩

theorem FlagsKept.raiseEvent {s t : State} (h : FlagsKept s t) (b : Bool) (ev : BitVec 4) :
    FlagsKept s (t.raiseEvent b ev) :=
  ⟨h.err, h.diverged, fun i hi => getLsbD_of_and_eq (raiseEvent_keeps_events t b ev) i (h.events i hi)⟩

/-- No command clears a flag (R225, R237, R402, R410). -/
theorem FlagsKept.of_effect {s t : State} {i : Instr} (h : Effect s i t) : FlagsKept s t := by
  cases h with
  | failed _ c hc => exact .recordError s c
  | configRejected => exact ⟨fun _ => rfl, id, (FlagsKept.recordError s .cfgInvalid).events⟩
  | samplePushed hx emitted clamped =>
    obtain ⟨-, -, -, -, hdiv⟩ := pushSample_frame s.sync s.sample
    have hsync : FlagsKept s (s.setSync (pushSample s.sync s.sample).sync) := ⟨id, hdiv, fun _ => id⟩
    exact (hsync.raiseEvent emitted symEv).raiseEvent clamped divEv
  | swept tau conf acq htau =>
    have hcorr (c : Correlator) : FlagsKept s (s.setCorr c) := ⟨id, id, fun _ => id⟩
    exact (hcorr _).raiseEvent acq acqEv
  | _ => exact ⟨id, id, fun _ => id⟩

theorem FlagsKept.of_complete {s t : State} (h : complete s = .next t) : FlagsKept s t := by
  obtain ⟨-, rfl⟩ | ⟨w, -, ⟨e, -, rfl⟩ | ⟨i, -, hexec⟩⟩ := complete_cases s t h
  · exact .refl _
  · obtain ⟨herr, hdiv, hev⟩ := FlagsKept.recordError s.retire .illegalCmd
    exact ⟨herr, hdiv, hev⟩
  · obtain ⟨herr, hdiv, hev⟩ := FlagsKept.of_effect (effect_of_exec hexec)
    exact ⟨herr, hdiv, hev⟩

theorem FlagsKept.of_hostRead {s t : State} {width : AccessWidth} {off : Nat} (h : hostRead width off s = .next t) :
    FlagsKept s t := by
  obtain ⟨-, ⟨-, -, rfl⟩ | ⟨-, rfl⟩⟩ := hostRead_cases width off s t h <;> exact ⟨id, id, fun _ => id⟩

/-- A register write clears the error and the divergence by their bits of STATUS, an event by its bit of IRQ_PEND,
and no flag otherwise (R315, R316). -/
theorem FlagsKept.of_writeEffect {s t : State} {v : Word} {r : Reg} (h : WriteEffect s v r t) :
    FlagsKept s t ∨
    (r = .status ∧ t = s.statusW1c v) ∨ (r = .irqPend ∧ t = s.irqAck v) := by
  cases h with
  | statusCleared => exact .inr (.inl ⟨rfl, rfl⟩)
  | eventsCleared => exact .inr (.inr ⟨rfl, rfl⟩)
  | rejected _ c hc => exact .inl (.recordError s c)
  | _ => exact .inl ⟨id, id, fun _ => id⟩

theorem getLsbD_one_of_statusW1c {s : State} {v : Word} (h : s.err = true) (hclear : (s.statusW1c v).err = false) :
    v.getLsbD 1 = true := by
  simpa [bit_eq_getLsbD, h] using hclear

theorem getLsbD_two_of_statusW1c {s : State} {v : Word} (h : s.sync.diverged = true)
    (hclear : (s.statusW1c v).sync.diverged = false) : v.getLsbD 2 = true := by
  simpa [bit_eq_getLsbD, h] using hclear

theorem getLsbD_of_irqAck {s : State} {v : Word} {b : Nat} (h : s.irqPend.getLsbD b = true)
    (hclear : (s.irqAck v).irqPend.getLsbD b = false) : v.getLsbD b = true := by
  have hb : b < 4 := BitVec.lt_of_getLsbD h
  simpa [h, hb] using hclear

theorem pending_eq_none_of_busy {s : State} (h : s.busy = false) : s.pending = none := by
  simpa [State.busy] using h

/-- A step keeps all flags, or is `rst`, or acknowledges flags by a write to an idle block (R55, R410, R414). -/
theorem step_flags_cases {s t : State} (h : step s = .next t) :
    FlagsKept s t ∨ s.inbox.head? = some .rst ∨
    (∃ v, s.inbox.head? = some (.write .w32 0x08 v) ∧ s.pending = none ∧ t = s.taken.statusW1c v) ∨
    (∃ v, s.inbox.head? = some (.write .w32 0x10 v) ∧ s.pending = none ∧ t = s.taken.irqAck v) := by
  have hkept {u : State} (hu : FlagsKept s.taken u) : FlagsKept s u := ⟨hu.err, hu.diverged, hu.events⟩
  obtain ⟨-, h⟩ | ⟨-, h⟩ | ⟨hin, -⟩ | ⟨width, off, -, h⟩ | ⟨width, off, v, hin, h⟩ := step_cases s t h
  · exact .inl (.of_complete h)
  · exact .inl (hkept (.of_complete h))
  · exact .inr (.inl hin)
  · exact .inl (hkept (.of_hostRead h))
  · obtain ⟨⟨rfl, -, halign⟩, ⟨-, rfl⟩ | ⟨hidle, r, hreg, rfl⟩ | ⟨-, -, rfl⟩⟩ := hostWrite_cases _ _ v _ t h
    · exact .inl (hkept (.recordError _ _))
    · have hpending : s.pending = none := pending_eq_none_of_busy hidle
      obtain hflags | ⟨rfl, heq⟩ | ⟨rfl, heq⟩ := FlagsKept.of_writeEffect (writeReg_effect r v s.taken)
      · exact .inl (hkept hflags)
      · obtain rfl : off = 0x08 := eq_of_regAt_eq hreg rfl halign rfl
        exact .inr (.inr (.inl ⟨v, hin, hpending, heq⟩))
      · obtain rfl : off = 0x10 := eq_of_regAt_eq hreg rfl halign rfl
        exact .inr (.inr (.inr ⟨v, hin, hpending, heq⟩))
    · exact .inl (hkept (.refl _))

/-- Settles O52, by the cases of a step: a flag that a step clears, it clears by an acknowledging write, whose bit
is then set. -/
theorem flagsClearedOnlyByHost : Obligations.FlagsClearedOnlyByHost := by
  intro s t hstep
  obtain ⟨herr, hdiv, hev⟩ | hrst | ⟨v, hin, hpending, rfl⟩ | ⟨v, hin, hpending, rfl⟩ := step_flags_cases hstep
  · exact ⟨fun hs ht => absurd (herr hs) (ht ▸ Bool.false_ne_true),
      fun hs ht => absurd (hdiv hs) (ht ▸ Bool.false_ne_true),
      fun b hs ht => absurd (hev b hs) (ht ▸ Bool.false_ne_true)⟩
  · exact ⟨fun _ _ => .inl hrst, fun _ _ => .inl hrst, fun _ _ _ => .inl hrst⟩
  · exact ⟨fun hs ht => .inr ⟨v, hin, getLsbD_one_of_statusW1c (s := s.taken) hs ht, hpending⟩,
      fun hs ht => .inr ⟨v, hin, getLsbD_two_of_statusW1c (s := s.taken) hs ht, hpending⟩,
      fun b hs ht => absurd (hs.symm.trans ht) nofun⟩
  · exact ⟨fun hs ht => absurd (hs.symm.trans ht) nofun, fun hs ht => absurd (hs.symm.trans ht) nofun,
      fun b hs ht => .inr ⟨v, hin, getLsbD_of_irqAck (s := s.taken) hs ht, hpending⟩⟩

/-! ### Who may change the gains (R55, R224) -/

/-- The configuration flag and the gains are the same in s and t. -/
structure GainsKept (s t : State) : Prop where
  cfgValid : t.sync.cfgValid = s.sync.cfgValid
  alpha : t.sync.alpha = s.sync.alpha
  beta : t.sync.beta = s.sync.beta

/-- Only SYNC_CFG changes the gains (R222, R225, R228). -/
theorem GainsKept.of_effect {s t : State} {i : Instr} (h : Effect s i t) : GainsKept s t ∨ i = .syncCfg := by
  cases h with
  | configured _ => exact .inr rfl
  | configRejected => exact .inr rfl
  | samplePushed hx emitted clamped =>
    obtain ⟨-, hcfg, halpha, hbeta, -⟩ := pushSample_frame s.sync s.sample
    exact .inl ⟨hcfg, halpha, hbeta⟩
  | _ => exact .inl ⟨rfl, rfl, rfl⟩

/-- No register write changes the gains: a mode change leaves them (R225). -/
theorem GainsKept.of_writeEffect {s t : State} {v : Word} {r : Reg} (h : WriteEffect s v r t) : GainsKept s t := by
  cases h <;> exact ⟨rfl, rfl, rfl⟩

theorem GainsKept.of_hostRead {s t : State} {width : AccessWidth} {off : Nat} (h : hostRead width off s = .next t) :
    GainsKept s t := by
  obtain ⟨-, ⟨-, -, rfl⟩ | ⟨-, rfl⟩⟩ := hostRead_cases width off s t h <;> exact ⟨rfl, rfl, rfl⟩

theorem GainsKept.of_hostWrite {s t : State} {width : AccessWidth} {off : Nat} {v : Word}
    (h : hostWrite width off v s = .next t) : GainsKept s t := by
  obtain ⟨-, ⟨-, rfl⟩ | ⟨-, r, -, rfl⟩ | ⟨-, -, rfl⟩⟩ := hostWrite_cases width off v s t h
  · exact ⟨rfl, rfl, rfl⟩
  · exact .of_writeEffect (writeReg_effect r v s)
  · exact ⟨rfl, rfl, rfl⟩

/-- A decoded word matches a row of the opcode map, and the row's OP names the command (R116). -/
theorem exists_row_of_decode {w : Word} {i : Instr} (h : decode w = .ok i) :
    ∃ row ∈ opcodeMap, w &&& row.mask = row.matchBits ∧
      commandOf row.op (bits w 2 0) (bits w 6 4) (bits w 15 0) = some i := by
  unfold decode at h
  split at h
  · cases h
  · rename_i row hrow
    split at h
    · rename_i hmatch
      split at h
      · rename_i hcmd
        cases h
        exact ⟨row, List.mem_of_find?_eq_some hrow, hmatch, hcmd⟩
      · cases h
    · cases h

/-- The OP value of a row is that of the command it names (R121). -/
theorem opOf_of_commandOf {op d st imm : Nat} {i : Instr} (h : commandOf op d st imm = some i) : opOf i = op := by
  unfold commandOf at h
  split at h <;> cases h <;> rfl

/-- One word decodes to SYNC_CFG (R113). -/
theorem eq_of_decode_syncCfg {w : Word} (h : decode w = .ok .syncCfg) : w = 0x30000000 := by
  obtain ⟨row, hrow, hmatch, hcmd⟩ := exists_row_of_decode h
  have honly : ∀ row ∈ opcodeMap, 0x30 = row.op → row = ⟨0x30, 0x30000000, 0xFFFFFFFF⟩ := by decide
  obtain rfl := honly row hrow (opOf_of_commandOf hcmd)
  exact BitVec.and_allOnes.symm.trans hmatch

/-- A completion keeps the gains or completes SYNC_CFG. -/
theorem GainsKept.of_complete {s t : State} (h : complete s = .next t) :
    GainsKept s t ∨ s.pending = some 0x30000000 := by
  obtain ⟨-, rfl⟩ | ⟨w, hw, ⟨e, -, rfl⟩ | ⟨i, hdecode, hexec⟩⟩ := complete_cases s t h
  · exact .inl ⟨rfl, rfl, rfl⟩
  · exact .inl ⟨rfl, rfl, rfl⟩
  · obtain ⟨hcfg, halpha, hbeta⟩ | rfl := GainsKept.of_effect (effect_of_exec hexec)
    · exact .inl ⟨hcfg, halpha, hbeta⟩
    · exact .inr (hw.trans (congrArg some (eq_of_decode_syncCfg hdecode)))

/-- Settles O53, by the cases of a step: all but a completing SYNC_CFG and `rst` keep the gains. -/
theorem gainsChangedOnlyBySyncCfg : Obligations.GainsChangedOnlyBySyncCfg := by
  intro s t hstep hchanged
  have hnotKept : ¬GainsKept s t := fun ⟨hcfg, halpha, hbeta⟩ =>
    hchanged.elim (· hcfg) fun h => h.elim (· halpha) (· hbeta)
  have htaken (h : GainsKept s.taken t) : GainsKept s t := ⟨h.cfgValid, h.alpha, h.beta⟩
  obtain ⟨hin, h⟩ | ⟨hin, h⟩ | ⟨hin, -⟩ | ⟨width, off, -, h⟩ | ⟨width, off, v, -, h⟩ := step_cases s t hstep
  · exact .inr ⟨(GainsKept.of_complete h).resolve_left hnotKept, .inl hin⟩
  · exact .inr ⟨(GainsKept.of_complete h).resolve_left fun hk => hnotKept (htaken hk), .inr hin⟩
  · exact .inl hin
  · exact absurd (htaken (.of_hostRead h)) hnotKept
  · exact absurd (htaken (.of_hostWrite h)) hnotKept

/-! ### The control fields (R33, R402, R465) -/

theorem ControlSound.recordError {s : State} (hs : ControlSound s) {c : ErrorCode} (hc : c ≠ .noError) :
    ControlSound (s.recordError c) :=
  ⟨hs.pending_is_cmd, iff_of_true rfl hc⟩

/-- No command touches CMD, and one that fails records a code (R402, R403). -/
theorem ControlSound.of_effect {s t : State} {i : Instr} (hs : ControlSound s) (h : Effect s i t) :
    ControlSound t := by
  cases h with
  | failed _ c hc => exact ControlSound.recordError hs hc
  | configRejected => exact ⟨hs.pending_is_cmd, iff_of_true rfl nofun⟩
  | _ => exact ⟨hs.pending_is_cmd, hs.err_has_code⟩

/-- The CMD write issues the word it stores, and STATUS clears ERR and its code together (R311, R315). -/
theorem ControlSound.of_writeEffect {s t : State} {v : Word} {r : Reg} (hs : ControlSound s)
    (h : WriteEffect s v r t) : ControlSound t := by
  cases h with
  | issued => exact ⟨fun w hw => Option.some.inj hw, hs.err_has_code⟩
  | statusCleared =>
    refine ⟨hs.pending_is_cmd, ?_⟩
    rw [State.statusW1c_err, State.statusW1c_errCode]
    split
    · simp
    · exact hs.err_has_code
  | rejected _ c hc => exact ControlSound.recordError hs hc
  | _ => exact ⟨hs.pending_is_cmd, hs.err_has_code⟩

theorem controlSound_keptByEvents : KeptByEvents ControlSound where
  queue _ _ _ _ hs := ⟨hs.pending_is_cmd, hs.err_has_code⟩
  hardReset _ := ⟨nofun, iff_of_false nofun (· rfl)⟩
  retire _ hs := ⟨nofun, hs.err_has_code⟩
  effect _ _ _ hs h := ControlSound.of_effect hs h
  write _ _ _ _ hs h := ControlSound.of_writeEffect hs h

/-- Settles O58, by the effects of commands and writes. -/
theorem stepKeepsControlSound : Obligations.StepKeepsControlSound :=
  fun _ _ hs h => controlSound_keptByEvents.step hs h

end Sys2Proof.StateLaws
end

section
/-! # The configuration registers stay legal (10_state.md R35 to R39, R44, R48)

A register write stores a legal value with its reserved bits masked, a mode change sets W from SPS, and commands write
RESULT from its fields; so every step keeps `ConfigLegal` (O56). -/

namespace Sys2Proof.StateLaws

open Sys2Proof Sys2Proof.Machine Sys2Proof.Safety

/-! ### Fields of masked words -/

/-- A bit field read as an integer is the bit vector's slice (R11). -/
theorem bits_eq_extractLsb (v : Word) {hi lo : Nat} (h : lo ≤ hi) : bits v hi lo = (v.extractLsb hi lo).toNat := by
  rw [BitVec.extractLsb_toNat, Nat.shiftRight_eq_div_pow, bits, Nat.sub_add_comm h]

/-- A mask that is all ones on a field keeps it. -/
theorem bits_and (v m : Word) {hi lo : Nat} (h : lo ≤ hi) (hm : m.extractLsb hi lo = BitVec.allOnes _) :
    bits (v &&& m) hi lo = bits v hi lo := by
  rw [bits_eq_extractLsb _ h, bits_eq_extractLsb _ h, BitVec.extractLsb_and, hm, BitVec.and_allOnes]

/-- A masked word is 0 on every bit outside the mask. -/
theorem and_and_eq_zero (v m n : Word) (h : m &&& n = 0) : v &&& m &&& n = 0 := by
  rw [BitVec.and_assoc, h]
  exact BitVec.and_zero

/-- The stored SEARCH is the written word's low 13 bits (R320). -/
theorem ofNat_bits_eq_and (v : Word) : BitVec.ofNat 32 (bits v 12 0) = v &&& 0x1FFF := by
  apply BitVec.eq_of_toNat_eq
  rw [BitVec.toNat_and, BitVec.toNat_ofNat, show (0x1FFF : Word).toNat = 2 ^ 13 - 1 from rfl,
    Nat.and_two_pow_sub_one_eq_mod, bits]
  omega

/-- RESULT's reserved bits are 0 whatever its fields hold (R44). -/
theorem resultWord_reserved (t i st c : Nat) : resultWord t i st c &&& 0xFFFFE888 = 0 := by
  apply BitVec.eq_of_getLsbD_eq
  intro b hb
  rw [BitVec.getLsbD_and, ← bit_eq_getLsbD, bit, resultWord_toNat]
  interval_cases b <;> simp <;> omega

/-! ### Commands, writes and reset -/

/-- Commands write RESULT from its fields, and leave the configuration and W (R225, R228). -/
theorem ConfigLegal.of_effect {s t : State} {i : Instr} (hs : ConfigLegal s) (h : Effect s i t) :
    ConfigLegal t := by
  cases h with
  | computed _ n p soft tribit index strib cls =>
    exact { hs with result_reserved := resultWord_reserved tribit index strib cls }
  | samplePushed hx emitted clamped =>
    obtain ⟨hw, -⟩ := pushSample_frame s.sync s.sample
    exact { hs with w_matches := hw.trans hs.w_matches }
  | _ => exact { hs with }

/-- A register write takes legal values only, without their reserved bits (R318 to R321). -/
theorem ConfigLegal.of_writeEffect {s t : State} {v : Word} {r : Reg} (hs : ConfigLegal s)
    (h : WriteEffect s v r t) : ConfigLegal t := by
  cases h with
  | modeTaken hlow hhigh w hw =>
    have hsps : bits (v &&& 0x0000FF01) 15 8 = bits v 15 8 := bits_and v _ (by decide) (by decide)
    exact { hs with
      mode_reserved := and_and_eq_zero v _ _ rfl
      sps_range := ⟨hlow.trans_eq hsps.symm, hsps.trans_le hhigh⟩
      w_matches := hw }
  | layoutTaken hrun hmf w hw =>
    have hdata : bits (v &&& 0x00FFFFFF) 7 0 = bits v 7 0 := bits_and v _ (by decide) (by decide)
    have hprobe : bits (v &&& 0x00FFFFFF) 15 8 = bits v 15 8 := bits_and v _ (by decide) (by decide)
    have hframes : bits (v &&& 0x00FFFFFF) 23 16 = bits v 23 16 := bits_and v _ (by decide) (by decide)
    exact { hs with
      layout_reserved := and_and_eq_zero v _ _ rfl
      layout_legal := ⟨hrun.trans_eq (congrArg₂ _ hdata hprobe).symm, hmf.trans_eq hframes.symm⟩
      w_matches := hw }
  | tplTaken hlow hhigh =>
    have hlen : bits (v &&& 0x01FFFFFF) 24 16 = bits v 24 16 := bits_and v _ (by decide) (by decide)
    exact { hs with
      tpl_reserved := and_and_eq_zero v _ _ rfl
      tpl_range := ⟨hlow.trans_eq hlen.symm, hlen.trans_le hhigh⟩ }
  | searchTaken hlow hhigh =>
    have hlen : bits (v &&& 0x1FFF) 12 0 = bits v 12 0 := bits_and v _ (by decide) (by decide)
    rw [ofNat_bits_eq_and]
    exact { hs with
      search_reserved := and_and_eq_zero v _ _ rfl
      search_range := ⟨hlow.trans_eq hlen.symm, hlen.trans_le hhigh⟩ }
  | threshTaken hv => exact { hs with thresh_legal := hv }
  | _ => exact { hs with }

/-- The configuration after reset is legal (R450). -/
theorem configLegal_reset : ConfigLegal State.reset where
  mode_reserved := rfl
  sps_range := by decide
  layout_reserved := rfl
  layout_legal := by decide
  tpl_reserved := rfl
  tpl_range := by decide
  search_reserved := rfl
  search_range := by decide
  thresh_legal := by decide
  result_reserved := rfl
  w_matches := by decide +kernel

theorem configLegal_keptByEvents : KeptByEvents ConfigLegal where
  queue _ _ _ _ hs := { hs with }
  hardReset _ := { configLegal_reset with }
  retire _ hs := { hs with }
  effect _ _ _ hs h := ConfigLegal.of_effect hs h
  write _ _ _ _ hs h := ConfigLegal.of_writeEffect hs h

/-- Settles O56, by the effects of commands and writes. -/
theorem stepKeepsConfigLegal : Obligations.StepKeepsConfigLegal :=
  fun _ _ hs h => configLegal_keptByEvents.step hs h

end Sys2Proof.StateLaws
end

section
/-! # The units stay sound (10_state.md R46, R47, R51, R53, 43_synchronizer.md R224, R229, 44_correlator.md R283)

`UnitsSound` is three invariants, one a unit, and each operation of a unit keeps its own; so every step keeps all
three (O57). -/

namespace Sys2Proof.StateLaws

open Sys2Proof Sys2Proof.Machine Sys2Proof.Safety

/-- The synchronizer's part of `UnitsSound`. -/
structure SynchronizerSound (y : Synchronizer) : Prop where
  fill_le : y.fill ≤ 4
  filling_untouched : y.fill < 4 → LoopUntouched y
  unconfigured_gains : y.cfgValid = false → y.alpha = 0 ∧ y.beta = 0
  gains_finite : isFinite y.alpha = true ∧ isFinite y.beta = true
  history_valid : validSample y.hist.h0 = true ∧ validSample y.hist.h1 = true ∧
    validSample y.hist.h2 = true ∧ validSample y.hist.h3 = true

/-- The correlator's part of `UnitsSound`. -/
structure CorrelatorSound (c : Correlator) : Prop where
  window_fits : c.win.length ≤ 4096
  window_full_when_slid : c.winBase ≠ 0 → c.win.length = 4096
  window_valid : ∀ x ∈ c.win, validSample x = true
  best_lt : c.best < 4096
  no_sweep_no_result : c.sweepValid = false → c.best = 0 ∧ c.conf = 0 ∧ c.acq = false

theorem unitsSound_iff (s : State) :
    UnitsSound s ↔ Aligned s.scr ∧ SynchronizerSound s.sync ∧ CorrelatorSound s.corr :=
  ⟨fun h => ⟨h.aligned, { h with }, { h with }⟩, fun ⟨ha, hy, hc⟩ => { hy, hc with aligned := ha }⟩

/-! ### The scrambler (R143, R147) -/

theorem aligned_loadedScrambler : Aligned loadedScrambler := ⟨by decide, rfl⟩

/-- One `next()` moves an aligned scrambler to the next position, and from the last one to the load (R143). -/
theorem Aligned.scrNext {c : Scrambler} (h : Aligned c) : Aligned (scrNext c).1 := by
  have hsucc : scramblerAfter (c.pos + 1) = (Machine.scrNext c).1 :=
    congrArg (fun c => (Machine.scrNext c).1) h.reg_eq.symm
  have hlt := h.pos_lt
  obtain ⟨-, heq⟩ | ⟨hpos, heq⟩ := scrNext_cases c
  · rw [heq]
    exact aligned_loadedScrambler
  · rw [heq] at hsucc ⊢
    exact ⟨by dsimp only; omega, hsucc.symm⟩

theorem Aligned.scrAdvance (n : Nat) {p : Scrambler × Nat} (h : Aligned p.1) : Aligned (scrAdvance n p).1 := by
  induction n generalizing p with
  | zero => exact h
  | succ n ih => exact ih (Aligned.scrNext h)

/-! ### The synchronizer (R225, R228, R229) -/

theorem validSample_czero : validSample czero = true := by decide

/-- A reset synchronizer is sound with any gains that agree with its flag (R224, R225). -/
theorem synchronizerSound_reset (y : Synchronizer) (alpha beta w : F32) (cfgValid : Bool)
    (hzero : cfgValid = false → alpha = 0 ∧ beta = 0) (hfin : isFinite alpha = true ∧ isFinite beta = true) :
    SynchronizerSound { syncReset y with alpha := alpha, beta := beta, cfgValid := cfgValid, w := w } where
  fill_le := Nat.zero_le 4
  filling_untouched _ := ⟨rfl, rfl, rfl, rfl, rfl, rfl, rfl, rfl, rfl, rfl, rfl⟩
  unconfigured_gains := hzero
  gains_finite := hfin
  history_valid := ⟨validSample_czero, validSample_czero, validSample_czero, validSample_czero⟩

theorem SynchronizerSound.syncReset {y : Synchronizer} (h : SynchronizerSound y) (w : F32) :
    SynchronizerSound { syncReset y with w := w } :=
  synchronizerSound_reset y y.alpha y.beta w y.cfgValid h.unconfigured_gains h.gains_finite

/-- A strobe writes neither FILL nor the history. -/
theorem strobe_frame (y : Synchronizer) (step : F32) :
    (strobe y step).sync.fill = y.fill ∧ (strobe y step).sync.hist = y.hist := by
  unfold strobe
  dsimp only
  split <;> exact ⟨rfl, rfl⟩

/-- A push shifts the sample in; FILL counts up to 4, and until then nothing else but SYM_VALID moves (R229). -/
theorem pushSample_fill_hist (y : Synchronizer) (x : Cplx) :
    (pushSample y x).sync.hist = shiftIn y.hist x ∧
    ((y.fill < 4 ∧ (pushSample y x).sync =
        { y with symValid := false, hist := shiftIn y.hist x, fill := y.fill + 1 }) ∨
      (4 ≤ y.fill ∧ (pushSample y x).sync.fill = y.fill)) := by
  obtain ⟨hfill, heq⟩ | ⟨hfill, -, heq⟩ | ⟨hfill, -, heq⟩ := pushSample_cases y x
  · exact heq ▸ ⟨rfl, .inl ⟨hfill, rfl⟩⟩
  · obtain ⟨hf, hh⟩ := strobe_frame { y with symValid := false, hist := shiftIn y.hist x } (fadd y.w y.v)
    exact heq ▸ ⟨hh, .inr ⟨hfill, hf⟩⟩
  · exact heq ▸ ⟨rfl, .inr ⟨hfill, rfl⟩⟩

theorem SynchronizerSound.pushSample {y : Synchronizer} (h : SynchronizerSound y) {x : Cplx}
    (hx : validSample x = true) : SynchronizerSound (pushSample y x).sync := by
  obtain ⟨-, hcfg, halpha, hbeta, -⟩ := pushSample_frame y x
  obtain ⟨hhist, hfill⟩ := pushSample_fill_hist y x
  obtain ⟨h0, h1, h2, -⟩ := h.history_valid
  refine ⟨?fits, ?untouched, ?gains, ?finite, ?history⟩
  case fits =>
    obtain ⟨hlt, heq⟩ | ⟨-, heq⟩ := hfill
    · exact heq ▸ hlt
    · exact heq ▸ h.fill_le
  case untouched =>
    intro hlt
    obtain ⟨hsmall, heq⟩ | ⟨hfull, heq⟩ := hfill
    · obtain ⟨hnco, hmu, he, hinteg, hv, hphase, hymid, hyprev, hsym, -, hcount⟩ := h.filling_untouched hsmall
      exact heq ▸ ⟨hnco, hmu, he, hinteg, hv, hphase, hymid, hyprev, hsym, rfl, hcount⟩
    · omega
  case gains => rw [hcfg, halpha, hbeta]; exact h.unconfigured_gains
  case finite => rw [halpha, hbeta]; exact h.gains_finite
  case history => rw [hhist]; exact ⟨hx, h0, h1, h2⟩

/-! ### The correlator (R271, R273, R278) -/

theorem correlatorSound_corrReset (c : Correlator) : CorrelatorSound (corrReset c) where
  window_fits := Nat.zero_le 4096
  window_full_when_slid h := absurd rfl h
  window_valid := by simp [corrReset]
  best_lt := Nat.zero_lt_succ 4095
  no_sweep_no_result _ := ⟨rfl, rfl, rfl⟩

/-- The window stays full once it slides: only a full one does (R273). -/
theorem CorrelatorSound.corrAppend {c : Correlator} (h : CorrelatorSound c) {x : Cplx}
    (hx : validSample x = true) : CorrelatorSound (corrAppend c x) := by
  have hfits := h.window_fits
  obtain ⟨hlt, heq⟩ | ⟨hfull, heq⟩ := corrAppend_cases c x
  · rw [heq]
    refine { h with window_fits := ?_, window_full_when_slid := fun hslid => ?_, window_valid := ?_ }
    · simpa using hlt
    · exact absurd (h.window_full_when_slid hslid) hlt.ne
    · simpa [or_imp, forall_and] using ⟨h.window_valid, hx⟩
  · have hlen : (c.win.tail ++ [x]).length = 4096 := by
      rw [List.length_append, List.length_tail, List.length_singleton]; omega
    rw [heq]
    refine { h with window_fits := hlen.le, window_full_when_slid := fun _ => hlen, window_valid := ?_ }
    simpa [or_imp, forall_and] using ⟨fun y hy => h.window_valid y (List.mem_of_mem_tail hy), hx⟩

theorem CorrelatorSound.swept {c : Correlator} (h : CorrelatorSound c) {tau : Nat} (htau : tau < 4096)
    (conf : F32) (acq : Bool) :
    CorrelatorSound { c with best := tau, conf := conf, acq := acq, sweepValid := true } :=
  { h with best_lt := htau, no_sweep_no_result := nofun }

/-! ### Commands, writes and reset -/

/-- The gains that `valid_cfg` admits are finite (R223). -/
theorem gains_finite_of_validCfg {z w : F32} (h : validCfg z w = true) :
    isFinite (gains z w).a = true ∧ isFinite (gains z w).b = true := by
  simp only [validCfg, Bool.and_eq_true] at h
  exact ⟨h.1.2, h.2⟩

/-- Every command keeps its unit sound, and leaves the other two or resets them. -/
theorem UnitsSound.of_effect {s t : State} {i : Instr} (hcfg : ConfigLegal s) (hs : UnitsSound s)
    (h : Effect s i t) : UnitsSound t := by
  rw [unitsSound_iff] at hs ⊢
  obtain ⟨hscr, hsync, hcorr⟩ := hs
  cases h with
  | unchanged => exact ⟨hscr, hsync, hcorr⟩
  | failed => exact ⟨hscr, hsync, hcorr⟩
  | unitsReset => exact ⟨aligned_loadedScrambler, hsync.syncReset _, correlatorSound_corrReset s.corr⟩
  | scramblerLoaded => exact ⟨aligned_loadedScrambler, hsync, hcorr⟩
  | computed _ n p soft tribit index strib cls => exact ⟨Aligned.scrAdvance n hscr, hsync, hcorr⟩
  | configured hvalid =>
    exact ⟨hscr, synchronizerSound_reset s.sync _ _ _ true nofun (gains_finite_of_validCfg hvalid), hcorr⟩
  | configRejected =>
    exact ⟨hscr, synchronizerSound_reset s.sync _ _ _ false (fun _ => ⟨rfl, rfl⟩) (by decide), hcorr⟩
  | synchronizerReset => exact ⟨hscr, hsync.syncReset _, hcorr⟩
  | samplePushed hx => exact ⟨hscr, hsync.pushSample hx, hcorr⟩
  | correlatorReset => exact ⟨hscr, hsync, correlatorSound_corrReset s.corr⟩
  | sampleAppended hx => exact ⟨hscr, hsync, hcorr.corrAppend hx⟩
  | swept tau conf acq htau =>
    obtain ⟨hlow, hhigh⟩ := hcfg.search_range
    exact ⟨hscr, hsync, hcorr.swept ((htau hlow).trans_le hhigh) conf acq⟩

/-- A register write leaves the units or, at a mode change, resets them (R318). -/
theorem UnitsSound.of_writeEffect {s t : State} {v : Word} {r : Reg} (hs : UnitsSound s)
    (h : WriteEffect s v r t) : UnitsSound t := by
  rw [unitsSound_iff] at hs ⊢
  obtain ⟨hscr, hsync, hcorr⟩ := hs
  cases h with
  | statusCleared => exact ⟨hscr, { hsync with }, hcorr⟩
  | modeTaken _ _ w _ => exact ⟨aligned_loadedScrambler, hsync.syncReset w, correlatorSound_corrReset s.corr⟩
  | layoutTaken _ _ w _ => exact ⟨aligned_loadedScrambler, hsync.syncReset w, correlatorSound_corrReset s.corr⟩
  | _ => exact ⟨hscr, hsync, hcorr⟩

theorem unitsSound_reset : UnitsSound State.reset :=
  (unitsSound_iff _).2 ⟨aligned_loadedScrambler,
    synchronizerSound_reset resetSynchronizer 0 0 _ false (fun _ => ⟨rfl, rfl⟩) (by decide),
    correlatorSound_corrReset resetCorrelator⟩

theorem configLegal_unitsSound_keptByEvents : KeptByEvents fun s => ConfigLegal s ∧ UnitsSound s where
  queue _ _ _ _ hs := ⟨{ hs.1 with }, { hs.2 with }⟩
  hardReset _ := ⟨{ configLegal_reset with }, { unitsSound_reset with }⟩
  retire _ hs := ⟨{ hs.1 with }, { hs.2 with }⟩
  effect _ _ _ hs h := ⟨ConfigLegal.of_effect hs.1 h, UnitsSound.of_effect hs.1 hs.2 h⟩
  write _ _ _ _ hs h := ⟨ConfigLegal.of_writeEffect hs.1 h, UnitsSound.of_writeEffect hs.2 h⟩

/-- Settles O57, together with the configuration, whose SEARCH_LEN bounds the offset a sweep reports. -/
theorem stepKeepsUnitsSound : Obligations.StepKeepsUnitsSound :=
  fun _ _ hcfg hs h => (configLegal_unitsSound_keptByEvents.step ⟨hcfg, hs⟩ h).2

end Sys2Proof.StateLaws
end

section
/-! # The window holds the newest samples of its stream (10_state.md R51, 44_correlator.md R273, R274)

Each push keeps the newest 4096 of the samples held and the new one, and taking the newest after each push or once at
the end is the same; WIN_BASE counts what falls out (O37). -/

namespace Sys2Proof.StateLaws

open Sys2Proof Sys2Proof.Machine Sys2Proof.Safety

/-- The last 4096 samples of a list, in order. -/
def newest (l : List Cplx) : List Cplx := l.drop (l.length - 4096)

theorem newest_of_length_le {l : List Cplx} (h : l.length ≤ 4096) : newest l = l := by
  rw [newest, Nat.sub_eq_zero_of_le h, List.drop_zero]

theorem length_newest (l : List Cplx) : (newest l).length = min l.length 4096 := by
  rw [newest, List.length_drop]
  omega

/-- Samples that have fallen out before do not matter to what is newest after more of them. -/
theorem newest_newest_append (l m : List Cplx) : newest (newest l ++ m) = newest (l ++ m) := by
  have hold : newest l ++ m = (l ++ m).drop (l.length - 4096) := by
    rw [newest, List.drop_append_of_le_length (Nat.sub_le _ _)]
  have hcount : l.length - 4096 + ((l ++ m).length - (l.length - 4096) - 4096) = (l ++ m).length - 4096 := by
    rw [List.length_append]
    omega
  rw [hold, newest, newest, List.drop_drop, List.length_drop, hcount]

/-- Appending one sample keeps the newest 4096 and counts the one that falls out (R273). -/
theorem corrAppend_eq_newest (c : Correlator) (x : Cplx) (h : c.win.length ≤ 4096) :
    corrAppend c x = { c with
      win := newest (c.win ++ [x])
      winBase := c.winBase + BitVec.ofNat 32 ((c.win ++ [x]).length - 4096) } := by
  have hlen : (c.win ++ [x]).length = c.win.length + 1 := by simp
  obtain ⟨hlt, heq⟩ | ⟨hfull, heq⟩ := corrAppend_cases c x
  · have hzero : (c.win ++ [x]).length - 4096 = 0 := by omega
    rw [heq, newest_of_length_le (by omega), hzero, BitVec.add_zero]
  · have hone : (c.win ++ [x]).length - 4096 = 1 := by omega
    have hne : c.win ≠ [] := List.ne_nil_of_length_pos (by omega)
    rw [heq, newest, hone, List.drop_one, List.tail_append_of_ne_nil hne]
    rfl

/-- CORR_PUSH of a valid sample completes and appends it (R274). -/
theorem exec_corrPush_of_valid {s : State} (h : validSample s.sample = true) :
    exec .corrPush s = .next (s.setCorr (corrAppend s.corr s.sample)) := if_pos h

/-- A stream of valid samples pushed to a window within its capacity. -/
theorem pushStream_spec (stream : List Cplx) (s : State) (hfits : s.corr.win.length ≤ 4096)
    (hvalid : ∀ x ∈ stream, validSample x = true) :
    ∃ t : State, pushStream stream s = some t ∧
      t.corr.win = newest (s.corr.win ++ stream) ∧
      t.corr.winBase = s.corr.winBase + BitVec.ofNat 32 ((s.corr.win ++ stream).length - 4096) ∧
      t.sync = s.sync ∧ t.scr = s.scr ∧ t.err = s.err := by
  induction stream generalizing s with
  | nil =>
    rw [List.append_nil, newest_of_length_le hfits, Nat.sub_eq_zero_of_le hfits]
    exact ⟨s, rfl, rfl, (BitVec.add_zero _).symm, rfl, rfl, rfl⟩
  | cons x xs ih =>
    obtain ⟨hx, hxs⟩ := List.forall_mem_cons.1 hvalid
    have hpush : exec .corrPush { s with sampI := x.i, sampQ := x.q } =
        .next ({ s with sampI := x.i, sampQ := x.q }.setCorr (corrAppend s.corr x)) := exec_corrPush_of_valid hx
    have happend := corrAppend_eq_newest s.corr x hfits
    obtain ⟨t, hrun, hwin, hbase, hframe⟩ := ih
      ({ s with sampI := x.i, sampQ := x.q }.setCorr (corrAppend s.corr x))
      (by rw [State.setCorr_corr, happend, length_newest]; exact Nat.min_le_right _ _) hxs
    refine ⟨t, by rw [pushStream, hpush]; exact hrun, ?window, ?base, hframe⟩
    case window =>
      rw [hwin, State.setCorr_corr, happend, newest_newest_append, List.append_assoc, List.singleton_append]
    case base =>
      have hcount : (s.corr.win ++ [x]).length - 4096 + ((newest (s.corr.win ++ [x]) ++ xs).length - 4096) =
          (s.corr.win ++ x :: xs).length - 4096 := by
        simp only [List.length_append, length_newest, List.length_cons, List.length_nil]
        omega
      rw [hbase, State.setCorr_corr, happend, BitVec.add_assoc, ← BitVec.ofNat_add, hcount]

/-- Settles O37, as the case of an empty window of streams pushed to any window. -/
theorem windowHoldsNewestSamples : Obligations.WindowHoldsNewestSamples := by
  intro s stream hempty hbase hvalid
  obtain ⟨t, hrun, hwin, hcount, hframe⟩ := pushStream_spec stream s (by simp [hempty]) hvalid
  rw [hempty, List.nil_append] at hwin hcount
  exact ⟨t, hrun, hwin, hcount.trans (hbase ▸ BitVec.zero_add _), hframe⟩

end Sys2Proof.StateLaws
end

section
/-! # What the register window reads and ignores (10_state.md R31 to R54, 20_memory.md R84)

STATUS and the packed registers bit field by bit field, and the registers that take any value or none. -/

namespace Sys2Proof.StateLaws

open Sys2Proof Sys2Proof.Machine Sys2Proof.Safety

/-! ### Packed words -/

theorem pack_nil_toNat : (pack []).toNat = 0 := rfl

/-- A packed word as a number is its first field at its place, added to the rest. -/
theorem pack_cons_toNat (lo width value : Nat) (fields : List (Nat × Nat × Nat)) :
    (pack ((lo, width, value) :: fields)).toNat =
      (value % 2 ^ width * 2 ^ lo + (pack fields).toNat) % 2 ^ 32 := by
  rw [pack, pack, BitVec.toNat_ofNat, BitVec.toNat_ofNat, Nat.add_mod_mod, List.foldr_cons]

/-! ### STATUS (R34, R401) -/

theorem errorNumber_le (c : ErrorCode) : errorNumber c ≤ 9 := by cases c <;> decide

theorem flag_le_one (b : Bool) : flag b ≤ 1 := by cases b <;> decide

theorem decide_flag_eq_one (b : Bool) : decide (flag b = 1) = b := by cases b <;> rfl

/-- A bit of a word whose bit of its number is a flag is that flag. -/
theorem getLsbD_eq_of_flag {v : Word} {i : Nat} {b : Bool} (h : v.toNat / 2 ^ i % 2 = flag b) : v.getLsbD i = b := by
  rw [← bit_eq_getLsbD, bit, h, decide_flag_eq_one]

/-- STATUS as a number: its flags at their places and the code from bit 8 (R34). -/
theorem statusWord_toNat (s : State) :
    s.statusWord.toNat = flag s.busy + 2 * flag s.err + 4 * flag s.sync.diverged + 8 * flag s.sync.cfgValid +
      16 * flag s.sync.symValid + 32 * flag s.corr.acq + 64 * flag s.corr.sweepValid +
      256 * errorNumber s.errCode := by
  have hcode := errorNumber_le s.errCode
  have hbusy := flag_le_one s.busy
  have herr := flag_le_one s.err
  have hdiverged := flag_le_one s.sync.diverged
  have hcfgValid := flag_le_one s.sync.cfgValid
  have hsymValid := flag_le_one s.sync.symValid
  have hacq := flag_le_one s.corr.acq
  have hsweepValid := flag_le_one s.corr.sweepValid
  simp only [State.statusWord, pack_cons_toNat, pack_nil_toNat, Nat.add_mod_mod]
  omega

/-- Settles O44: each bit is read off STATUS as a number. -/
theorem statusBits : Obligations.StatusBits := by
  refine ⟨fun s => ?_, rfl, rfl, rfl, rfl, rfl, rfl, rfl, rfl, rfl, rfl⟩
  have hcode := errorNumber_le s.errCode
  have hbusy := flag_le_one s.busy
  have herr := flag_le_one s.err
  have hdiverged := flag_le_one s.sync.diverged
  have hcfgValid := flag_le_one s.sync.cfgValid
  have hsymValid := flag_le_one s.sync.symValid
  have hacq := flag_le_one s.corr.acq
  have hsweepValid := flag_le_one s.corr.sweepValid
  have hclear : flag false = 0 := rfl
  have hword : (readSlot 0x08 s).toNat = _ := statusWord_toNat s
  dsimp only
  refine ⟨getLsbD_eq_of_flag (b := s.busy) ?_, getLsbD_eq_of_flag ?_, getLsbD_eq_of_flag ?_, getLsbD_eq_of_flag ?_,
    getLsbD_eq_of_flag ?_, getLsbD_eq_of_flag ?_, getLsbD_eq_of_flag ?_, getLsbD_eq_of_flag ?_, ?_, hcode⟩ <;> omega

/-! ### The other registers (R31 to R54, R81) -/

/-- SCR_STATE as a number (R46). -/
theorem scrState_toNat (s : State) (hpos : s.scr.pos < 256) :
    (readReg .scrState s).toNat = s.scr.reg.toNat + 2 ^ 16 * s.scr.pos := by
  have hreg := s.scr.reg.isLt
  simp only [readReg, pack_cons_toNat, pack_nil_toNat]
  omega

/-- SYNC_STAT as a number (R47). -/
theorem syncStat_toNat (s : State) (hfill : s.sync.fill < 8) :
    (readReg .syncStat s).toNat =
      s.sync.fill + (if s.sync.phase then 8 else 0) + 2 ^ 16 * s.sync.symCount.toNat := by
  have hcount := s.sync.symCount.isLt
  simp only [readReg, pack_cons_toNat, pack_nil_toNat, flag]
  split <;> omega

/-- CORR_BEST as a number (R50). -/
theorem corrBest_toNat (s : State) (hbest : s.corr.best < 4096) : (readReg .corrBest s).toNat = s.corr.best := by
  simp only [readReg, pack_cons_toNat, pack_nil_toNat]
  omega

/-- WIN_COUNT as a number (R51). -/
theorem winCount_toNat (s : State) (hwin : s.corr.win.length < 8192) :
    (readReg .winCount s).toNat = s.corr.win.length := by
  simp only [readReg, pack_cons_toNat, pack_nil_toNat, Correlator.winCount]
  omega

/-- N by the bit MODE.ORDER (R35). -/
theorem order_eq_ite (s : State) : s.order = if s.mode.getLsbD 0 then 4 else 8 := by
  have hbit : bits s.mode 0 0 = 0 ↔ bit s.mode 0 = false := by
    rw [bits, bit, decide_eq_false_iff_not]
    omega
  rw [State.order, ← bit_eq_getLsbD]
  simp only [hbit]
  cases bit s.mode 0 <;> rfl

/-- A byte lane is its slice of the word (R81). -/
theorem ofNat_bits_eq_extractLsb (v : Word) {hi lo : Nat} (h : lo ≤ hi) :
    BitVec.ofNat (hi - lo + 1) (bits v hi lo) = v.extractLsb hi lo := by
  rw [bits_eq_extractLsb v h, BitVec.ofNat_toNat, BitVec.setWidth_eq]

/-- Settles O45: each offset reads its register, and each field is a slice of one. -/
theorem packedRegisters : Obligations.PackedRegisters := by
  have hfield (v : Word) (hi lo : Nat) (h : lo ≤ hi) := bits_eq_extractLsb v h
  have hlane (v : Word) (k : Nat) := ofNat_bits_eq_extractLsb v (Nat.le_add_right (8 * k) 7)
  refine ⟨fun s => ?_, fun s hpos hfill hbest hwin => ?_, fun s => ?_, fun v => ?_⟩
  · refine ⟨rfl, rfl, BitVec.toNat_setWidth_of_le (by decide), BitVec.toNat_setWidth_of_le (by decide), rfl, rfl, rfl,
      rfl, rfl, rfl, rfl, rfl, rfl, rfl, rfl, rfl, rfl, rfl, rfl, rfl, rfl, rfl, rfl, rfl, rfl, rfl, rfl, rfl, rfl⟩
  · exact ⟨scrState_toNat s hpos, syncStat_toNat s hfill, corrBest_toNat s hbest, winCount_toNat s hwin⟩
  · exact ⟨order_eq_ite s, hfield _ 15 8 (by decide), hfield _ 7 0 (by decide), hfield _ 15 8 (by decide),
      hfield _ 23 16 (by decide), rfl, rfl, hfield _ 15 0 (by decide), hfield _ 24 16 (by decide),
      hfield _ 12 0 (by decide), rfl, rfl⟩
  · exact ⟨hlane v 0, hlane v 1, hlane v 2, hlane v 3⟩

/-! ### Plain and ignored writes (R84, R314, R322) -/

/-- The registers that ignore writes: ID, the gains, and all from RESULT at 0x48 on (R32). -/
def readOnlyRegs : List Reg := [.id, .alpha, .beta] ++ regOrder.drop 18

theorem writeReg_of_readOnly {r : Reg} (h : r ∈ readOnlyRegs) (v : Word) (s : State) : writeReg r v s = s := by
  cases r with
  | cmd | status | irqEn | irqPend | mode | layout | tpl | search | corrThresh | zeta | omega | sampI | sampQ | ptI
  | ptQ => exact absurd h (by decide)
  | _ => rfl

theorem mem_readOnlyRegs_of_regAt {off : Nat} {r : Reg} (h : regAt off = some r)
    (hoff : off = 0x00 ∨ off = 0x30 ∨ off = 0x34 ∨ 0x48 ≤ off) : r ∈ readOnlyRegs := by
  obtain rfl | rfl | rfl | hlate := hoff
  · obtain rfl : Reg.id = r := Option.some.inj h
    decide
  · obtain rfl : Reg.alpha = r := Option.some.inj h
    decide
  · obtain rfl : Reg.beta = r := Option.some.inj h
    decide
  · have hsplit : off / 4 = 18 + (off / 4 - 18) := by omega
    rw [regAt, hsplit, ← List.getElem?_drop] at h
    exact List.mem_append_right _ (List.mem_of_getElem? h)

/-- From 0x88 on the window is reserved (R32). -/
theorem regAt_eq_none {off : Nat} (h : 0x88 ≤ off) : regAt off = none := by
  rw [regAt, List.getElem?_eq_none_iff]
  change 34 ≤ off / 4
  omega

/-- A step of an idle block whose next event is a write that passes the bus checks. -/
theorem step_write_idle {s : State} {off : Nat} {v : Word} {rest : List Event} (hidle : s.pending = none)
    (hin : s.inbox = .write .w32 off v :: rest) (hoff : off < 256) (halign : off % 4 = 0) :
    (∀ r, regAt off = some r → step s = .next (writeReg r v { s with inbox := rest })) ∧
    (regAt off = none → step s = .next { s with inbox := rest }) := by
  have hcheck : busCheck .w32 off = none := (busCheck_none_iff _ _).2 ⟨rfl, hoff, halign⟩
  have htaken : s.taken = { s with inbox := rest } := by rw [State.taken, hin, List.tail_cons]
  have hbusy : ({ s with inbox := rest } : State).busy = false := by simp [State.busy, hidle]
  have hstep : step s = .next (writeSlot off v { s with inbox := rest }) := by
    simp only [StepLaws.step_of_inbox_cons s _ rest hin, handleEvent, hostWrite, hcheck, htaken]
  refine ⟨fun r hr => ?_, fun hr => ?_⟩ <;> simp [hstep, writeSlot, hbusy, hr]

/-- Settles O50, by the register at the offset. -/
theorem plainAndIgnoredWrites : Obligations.PlainAndIgnoredWrites := by
  refine ⟨fun s off v rest hidle hin => ?_, fun s off hres _ _ => ?_, fun s => rfl⟩
  · have hwrite := step_write_idle hidle hin
    refine ⟨?zeta, ?omega, ?sampI, ?sampQ, ?ptI, ?ptQ, fun halign hoff hro => ?ignored⟩
    case ignored =>
      cases hr : regAt off with
      | none => exact (hwrite hoff halign).2 hr
      | some r => rw [(hwrite hoff halign).1 r hr, writeReg_of_readOnly (mem_readOnlyRegs_of_regAt hr hro)]
    all_goals
      rintro rfl
      exact (hwrite (by decide) rfl).1 _ rfl
  · rw [readSlot, regAt_eq_none hres]

end Sys2Proof.StateLaws
end

section
/-! # Bus refusals and host reads (20_memory.md R82, R83, R86, 45_control.md R324, 70_reset_and_hazards.md R466)

What an access that fails a bus check is answered (O51), and what a read that passes them leaves (O43). -/

namespace Sys2Proof.StateLaws

open Sys2Proof Sys2Proof.Machine Sys2Proof.Safety

/-! ### Refused accesses -/

/-- The width is checked before the alignment (log 7). -/
theorem busCheck_of_width_ne {width : AccessWidth} {off : Nat} (hoff : off < 256) (hwidth : width ≠ .w32) :
    busCheck width off = some (.refused .busWidth) := by
  rw [busCheck, Config.mapBytes, if_neg (not_le.2 hoff), if_pos hwidth]

theorem busCheck_of_misaligned {off : Nat} (hoff : off < 256) (halign : off % 4 ≠ 0) :
    busCheck .w32 off = some (.refused .busAlign) := by
  rw [busCheck, Config.mapBytes, if_neg (not_le.2 hoff), if_neg (not_not.2 rfl), if_pos halign]

/-- The bus answers in place of the block: a step's answer to a read or write is that of the failed check. -/
theorem step_of_busCheck_some {s : State} {width : AccessWidth} {off : Nat} {v : Word} {rest : List Event} {r : Result}
    (hin : s.inbox = .read width off :: rest ∨ s.inbox = .write width off v :: rest)
    (hcheck : busCheck width off = some r) : step s = r := by
  obtain hread | hwrite := hin
  · simp only [StepLaws.step_of_inbox_cons s _ rest hread, handleEvent, hostRead, hcheck]
  · simp only [StepLaws.step_of_inbox_cons s _ rest hwrite, handleEvent, hostWrite, hcheck]

/-- Settles O51, by the bus check that fails. -/
theorem busRefusals : Obligations.BusRefusals := by
  intro s width off v rest hoff hin
  refine ⟨fun hwidth => step_of_busCheck_some hin (busCheck_of_width_ne hoff hwidth), ?_⟩
  rintro rfl halign
  exact step_of_busCheck_some hin (busCheck_of_misaligned hoff halign)

/-! ### Host reads -/

theorem regAt_eq_status_iff {off : Nat} (halign : off % 4 = 0) : regAt off = some .status ↔ off = 0x08 := by
  refine ⟨fun h => eq_of_regAt_eq h rfl halign rfl, ?_⟩
  rintro rfl
  rfl

/-- No register shows the host's own queue of accesses. -/
theorem readReg_taken (r : Reg) (s : State) : readReg r s.taken = readReg r s := by
  cases r <;> rfl

theorem readSlot_taken (off : Nat) (s : State) : readSlot off s.taken = readSlot off s := by
  simp only [readSlot, readReg_taken]

/-- A read that passes the bus checks, by BUSY and by the register at its offset (R324, R466). -/
theorem hostRead_of_passes {off : Nat} (s : State) (hoff : off < 256) (halign : off % 4 = 0) :
    ((s.pending = none ∨ off = 0x08) → hostRead .w32 off s = .next (s.reply (readSlot off s))) ∧
    (s.pending ≠ none → off ≠ 0x08 → hostRead .w32 off s =
      .next { s.reply (Config.freeRead s.freeCount) with freeCount := s.freeCount + 1 }) := by
  have hcheck : busCheck .w32 off = none := (busCheck_none_iff _ _).2 ⟨rfl, hoff, halign⟩
  have hbusy : s.busy = true ↔ s.pending ≠ none := by rw [State.busy, Option.isSome_iff_ne_none]
  have hfree : (s.busy && regAt off != some .status) = true ↔ s.pending ≠ none ∧ off ≠ 0x08 := by
    rw [Bool.and_eq_true, bne_iff_ne, hbusy, Ne, Ne, Ne, regAt_eq_status_iff halign]
  rw [hostRead, hcheck]
  refine ⟨fun hvalue => if_neg fun h => ?_, fun hpend hne => if_pos (hfree.2 ⟨hpend, hne⟩)⟩
  obtain ⟨hpend, hne⟩ := hfree.1 h
  exact hvalue.elim hpend hne

/-- Settles O43: the step takes the read out of the inbox and answers as `hostRead_of_passes` says. -/
theorem readsHaveNoSideEffect : Obligations.ReadsHaveNoSideEffect := by
  intro s off rest hoff halign hin
  have hstep : step s = hostRead .w32 off s.taken := StepLaws.step_of_inbox_cons s _ rest hin
  have htaken : s.taken = { s with inbox := rest } := by rw [State.taken, hin, List.tail_cons]
  obtain ⟨hvalue, hfree⟩ := hostRead_of_passes s.taken hoff halign
  refine ⟨fun h => ?_, fun hpend hne => ?_⟩
  · rw [hstep, hvalue h, readSlot_taken, htaken, State.reply]
  · rw [hstep, hfree hpend hne, htaken, State.reply]

end Sys2Proof.StateLaws
end

section
/-! # The decoder and the encoder are inverse (30_encoding.md R112 to R121)

A word that matches a row of the opcode map is the row's match plus the operand bits that the row's mask leaves out, and
those bits are the operand fields that the row's command reads. So a word decodes to a command exactly where the command
is well formed and encodes to the word (`decode_eq_ok_iff`), which gives O1 and O2; the rows themselves give O3, and a
word outside them completes as ILLEGAL_CMD (O4). -/

namespace Sys2Proof.DecoderLaws

open Sys2Proof Sys2Proof.Machine Sys2Proof.Safety Sys2Proof.StateLaws

/-! ### Masked words -/

theorem and_and_and_eq_zero {a b : Word} (w : Word) (h : a &&& b = 0) : (w &&& a) &&& (w &&& b) = 0 := by
  have hswap : (w &&& a) &&& (w &&& b) = (w &&& a &&& b) &&& w := by ac_rfl
  rw [hswap, and_and_eq_zero w a b h]
  exact BitVec.zero_and

/-- Disjoint masks split a word into a sum. -/
theorem and_or_eq_add {a b : Word} (w : Word) (h : a &&& b = 0) : w &&& (a ||| b) = (w &&& a) + (w &&& b) := by
  rw [BitVec.and_or_distrib_left, BitVec.add_eq_or_of_and_eq_zero _ _ (and_and_and_eq_zero w h)]

theorem toNat_and_or {a b : Word} (w : Word) (h : a &&& b = 0) :
    (w &&& (a ||| b)).toNat = (w &&& a).toNat + (w &&& b).toNat := by
  rw [and_or_eq_add w h, BitVec.toNat_add_of_and_eq_zero (and_and_and_eq_zero w h)]

theorem and_add_and_not (w m : Word) : (w &&& m) + (w &&& ~~~m) = w := by
  have hcover : m ||| ~~~m = BitVec.allOnes 32 := by simp
  rw [← and_or_eq_add w (by simp), hcover, BitVec.and_allOnes]

/-- A word matches where it is the match plus its bits outside the mask. -/
theorem and_eq_iff_eq_add (w m b : Word) : w &&& m = b ↔ w = b + (w &&& ~~~m) := by
  constructor
  · rintro rfl
    exact (and_add_and_not w m).symm
  · intro h
    exact add_right_cancel ((and_add_and_not w m).trans h)

/-- A field at the bottom of a word is a remainder (R11). -/
theorem bits_zero (w : Word) (hi : Nat) : bits w hi 0 = w.toNat % 2 ^ (hi + 1) := by
  rw [bits, pow_zero, Nat.div_one, Nat.sub_zero]

theorem toNat_and_lowBits (w : Word) {k : Nat} (hk : k ≤ 32) :
    (w &&& BitVec.ofNat 32 (2 ^ k - 1)).toNat = w.toNat % 2 ^ k := by
  have hlt : 2 ^ k - 1 < 2 ^ 32 := by
    have := Nat.pow_le_pow_right (n := 2) (by decide) hk
    omega
  rw [BitVec.toNat_and, BitVec.toNat_ofNat, Nat.mod_eq_of_lt hlt, Nat.and_two_pow_sub_one_eq_mod]

/-! ### Operand fields (R113, R114) -/

theorem toNat_and_imm16 (w : Word) : (w &&& 0xFFFF).toNat = bits w 15 0 :=
  (toNat_and_lowBits w (k := 16) (by decide)).trans (bits_zero w 15).symm

theorem toNat_and_dataTribit (w : Word) : (w &&& 0x07).toNat = bits w 2 0 :=
  (toNat_and_lowBits w (k := 3) (by decide)).trans (bits_zero w 2).symm

/-- The scrambler tribit is what the low 7 bits hold above the low 4. -/
theorem toNat_and_scrTribit (w : Word) : (w &&& 0x70).toNat = bits w 6 4 * 16 := by
  have hsplit : (w &&& 0x7F).toNat = (w &&& 0x70).toNat + (w &&& 0x0F).toNat :=
    toNat_and_or (a := 0x70) (b := 0x0F) w (by decide)
  have hlow7 : (w &&& 0x7F).toNat = w.toNat % 2 ^ 7 := toNat_and_lowBits w (k := 7) (by decide)
  have hlow4 : (w &&& 0x0F).toNat = w.toNat % 2 ^ 4 := toNat_and_lowBits w (k := 4) (by decide)
  unfold bits
  omega

theorem toNat_and_tribits (w : Word) : (w &&& 0x77).toNat = bits w 6 4 * 16 + bits w 2 0 := by
  have hsplit : (w &&& 0x77).toNat = (w &&& 0x70).toNat + (w &&& 0x07).toNat :=
    toNat_and_or (a := 0x70) (b := 0x07) w (by decide)
  rw [hsplit, toNat_and_scrTribit, toNat_and_dataTribit]

theorem tribitFits_iff {t : Nat} : tribitFits t = true ↔ t < 8 := by
  rw [tribitFits, decide_eq_true_iff, Nat.lt_succ_iff]

theorem imm16Fits_iff {n : Nat} : imm16Fits n = true ↔ n < 65536 := by
  rw [imm16Fits, decide_eq_true_iff, Nat.lt_succ_iff]

/-- A field's value is in the field's range (R114). -/
theorem bits_lt (w : Word) (hi lo : Nat) : bits w hi lo < 2 ^ (hi + 1 - lo) :=
  Nat.mod_lt _ (Nat.two_pow_pos _)

/-- The operand bits of a row, by its OP: IMM16, both tribits, one of them, or none (R112, R121). -/
def operandMask : Nat → Word
  | 0x12 => 0xFFFF
  | 0x20 => 0x77
  | 0x21 => 0x70
  | 0x22 => 0x07
  | 0x28 => 0xFFFF
  | _ => 0

/-- A row's mask covers all but its operand bits (R121). -/
theorem not_mask_of_mem {row : OpcodeRow} (h : row ∈ opcodeMap) : ~~~row.mask = operandMask row.op := by
  revert row
  decide

/-- The command of a word's operand fields is well formed and carries exactly the word's operand bits (R114). -/
theorem operandBits_of_commandOf {w : Word} {op : Nat} {i : Instr}
    (h : commandOf op (bits w 2 0) (bits w 6 4) (bits w 15 0) = some i) :
    i.wellFormed = true ∧ operandBits i = (w &&& operandMask op).toNat := by
  obtain rfl : opOf i = op := opOf_of_commandOf h
  have hdata : tribitFits (bits w 2 0) = true := tribitFits_iff.2 (bits_lt w 2 0)
  have hscr : tribitFits (bits w 6 4) = true := tribitFits_iff.2 (bits_lt w 6 4)
  have himm : imm16Fits (bits w 15 0) = true := imm16Fits_iff.2 (bits_lt w 15 0)
  cases i with
  | scrAdvance count =>
    obtain rfl : bits w 15 0 = count := Instr.scrAdvance.inj (Option.some.inj h)
    exact ⟨himm, (toNat_and_imm16 w).symm⟩
  | mapEnc d s =>
    obtain ⟨rfl, rfl⟩ : bits w 2 0 = d ∧ bits w 6 4 = s := Instr.mapEnc.inj (Option.some.inj h)
    exact ⟨Bool.and_eq_true_iff.2 ⟨hdata, hscr⟩, (toNat_and_tribits w).symm⟩
  | mapDec s =>
    obtain rfl : bits w 6 4 = s := Instr.mapDec.inj (Option.some.inj h)
    exact ⟨hscr, (toNat_and_scrTribit w).symm⟩
  | txSym d =>
    obtain rfl : bits w 2 0 = d := Instr.txSym.inj (Option.some.inj h)
    exact ⟨hdata, (toNat_and_dataTribit w).symm⟩
  | layoutClass pos =>
    obtain rfl : bits w 15 0 = pos := Instr.layoutClass.inj (Option.some.inj h)
    exact ⟨himm, (toNat_and_imm16 w).symm⟩
  | _ => exact ⟨rfl, (congrArg BitVec.toNat BitVec.and_zero).symm⟩

/-! ### The encoder (R112, R119) -/

/-- Every command has its row. -/
theorem exists_row_of_instr (i : Instr) : ∃ row ∈ opcodeMap, row.op = opOf i := by
  cases i <;> simp [opcodeMap, opOf]

/-- A row's match is its OP above zero operand bits (R121). -/
theorem matchBits_of_mem {row : OpcodeRow} (h : row ∈ opcodeMap) :
    row.matchBits = BitVec.ofNat 32 (row.op * 2 ^ 24) := by
  revert row
  decide

/-- The word of a command is its row's match plus its operand bits (R119). -/
theorem encode_eq_add {row : OpcodeRow} {i : Instr} (hrow : row ∈ opcodeMap) (hop : row.op = opOf i) :
    encode i = row.matchBits + BitVec.ofNat 32 (operandBits i) := by
  rw [encode, matchBits_of_mem hrow, hop, BitVec.ofNat_add]

/-- The operand fields of a word are those of its operand bits, whatever its OP (R113). -/
theorem operandFields_eq (op operands : Nat) :
    let w : Word := BitVec.ofNat 32 (op * 2 ^ 24 + operands)
    bits w 2 0 = operands % 8 ∧ bits w 6 4 = operands / 16 % 8 ∧ bits w 15 0 = operands % 65536 := by
  simp only [bits, BitVec.toNat_ofNat]
  omega

/-- The operand fields of a well-formed command's word give its operands back (R114). -/
theorem commandOf_encode {i : Instr} (h : i.wellFormed = true) :
    commandOf (opOf i) (bits (encode i) 2 0) (bits (encode i) 6 4) (bits (encode i) 15 0) = some i := by
  obtain ⟨hdata, hscr, himm⟩ := operandFields_eq (opOf i) (operandBits i)
  rw [encode, hdata, hscr, himm]
  cases i with
  | scrAdvance count =>
    have hcount : count % 65536 = count := Nat.mod_eq_of_lt (imm16Fits_iff.1 h)
    exact congrArg (fun n => some (Instr.scrAdvance n)) hcount
  | mapEnc d s =>
    obtain ⟨hd, hs⟩ : d < 8 ∧ s < 8 := (Bool.and_eq_true_iff.1 h).imp tribitFits_iff.1 tribitFits_iff.1
    have hdLow : (s * 16 + d) % 8 = d := by omega
    have hsHigh : (s * 16 + d) / 16 % 8 = s := by omega
    exact congrArg₂ (fun m n => some (Instr.mapEnc m n)) hdLow hsHigh
  | mapDec s =>
    have hs : s * 16 / 16 % 8 = s := by
      rw [Nat.mul_div_cancel _ (by decide), Nat.mod_eq_of_lt (tribitFits_iff.1 h)]
    exact congrArg (fun n => some (Instr.mapDec n)) hs
  | txSym d =>
    have hd : d % 8 = d := Nat.mod_eq_of_lt (tribitFits_iff.1 h)
    exact congrArg (fun n => some (Instr.txSym n)) hd
  | layoutClass pos =>
    have hpos : pos % 65536 = pos := Nat.mod_eq_of_lt (imm16Fits_iff.1 h)
    exact congrArg (fun n => some (Instr.layoutClass n)) hpos
  | _ => rfl

/-! ### The decoder (R116) -/

/-- A row's mask covers the OP field, which its match holds (R121). -/
theorem op_of_matches {w : Word} {row : OpcodeRow} (hrow : row ∈ opcodeMap) (hmatch : w &&& row.mask = row.matchBits) :
    bits w 31 24 = row.op := by
  have hmask : ∀ row ∈ opcodeMap, row.mask.extractLsb 31 24 = BitVec.allOnes _ := by decide
  have hop : ∀ row ∈ opcodeMap, bits row.matchBits 31 24 = row.op := by decide
  rw [← bits_and w row.mask (by decide) (hmask row hrow), hmatch, hop row hrow]

/-- A word that matches a row decodes to the row's command: no other row has its OP (R116, R121). -/
theorem decode_of_matches {w : Word} {row : OpcodeRow} {i : Instr} (hrow : row ∈ opcodeMap)
    (hmatch : w &&& row.mask = row.matchBits)
    (hcmd : commandOf row.op (bits w 2 0) (bits w 6 4) (bits w 15 0) = some i) : decode w = .ok i := by
  have hfind : ∀ row ∈ opcodeMap, opcodeMap.find? (fun r => r.op == row.op) = some row := by decide
  simp only [decode, op_of_matches hrow hmatch, hfind row hrow, hmatch, if_true, hcmd]

/-- A word has one meaning, and a well-formed command one word (R116, R117). -/
theorem decode_eq_ok_iff (w : Word) (i : Instr) : decode w = .ok i ↔ i.wellFormed = true ∧ encode i = w := by
  constructor
  · intro h
    obtain ⟨row, hrow, hmatch, hcmd⟩ := exists_row_of_decode h
    obtain ⟨hwf, hoperands⟩ := operandBits_of_commandOf hcmd
    refine ⟨hwf, ?_⟩
    calc encode i = row.matchBits + BitVec.ofNat 32 (operandBits i) := encode_eq_add hrow (opOf_of_commandOf hcmd).symm
      _ = row.matchBits + (w &&& ~~~row.mask) := by
        rw [hoperands, not_mask_of_mem hrow, BitVec.ofNat_toNat, BitVec.setWidth_eq]
      _ = w := ((and_eq_iff_eq_add _ _ _).1 hmatch).symm
  · rintro ⟨hwf, rfl⟩
    obtain ⟨row, hrow, hop⟩ := exists_row_of_instr i
    have hcmd := commandOf_encode hwf
    rw [← hop] at hcmd
    obtain ⟨-, hoperands⟩ := operandBits_of_commandOf hcmd
    refine decode_of_matches hrow ((and_eq_iff_eq_add _ _ _).2 ?_) hcmd
    calc encode i = row.matchBits + BitVec.ofNat 32 (operandBits i) := encode_eq_add hrow hop
      _ = row.matchBits + (encode i &&& ~~~row.mask) := by
        rw [hoperands, not_mask_of_mem hrow, BitVec.ofNat_toNat, BitVec.setWidth_eq]

/-- Settles O1, by `decode_eq_ok_iff` from right to left. -/
theorem decodeOfEncode : Obligations.DecodeOfEncode :=
  fun i hwf => (decode_eq_ok_iff (encode i) i).2 ⟨hwf, rfl⟩

/-- Settles O2, by `decode_eq_ok_iff` from left to right. -/
theorem encodeOfDecode : Obligations.EncodeOfDecode :=
  fun w i => (decode_eq_ok_iff w i).1

/-! ### The opcode map (R121) -/

theorem decode_of_eq_encode {w : Word} (i : Instr) (hwf : i.wellFormed = true) (h : w = encode i) :
    decode w = .ok i :=
  (decode_eq_ok_iff w i).2 ⟨hwf, h.symm⟩

/-- The rows by format: no operand, IMM16, and the three of tribits (R112). -/
theorem format_of_mem {row : OpcodeRow} (h : row ∈ opcodeMap) :
    (row.mask = BitVec.allOnes 32 ∧
      row.matchBits ∈ [0x00000000, 0x01000000, 0x10000000, 0x11000000, 0x23000000, 0x30000000, 0x31000000,
        0x32000000, 0x40000000, 0x41000000, 0x42000000]) ∨
    (row.mask = 0xFFFF0000 ∧ row.matchBits ∈ [0x12000000, 0x28000000]) ∨
    (row.mask = 0xFFFFFF88 ∧ row.matchBits = 0x20000000) ∨
    (row.mask = 0xFFFFFF8F ∧ row.matchBits = 0x21000000) ∨
    (row.mask = 0xFFFFFFF8 ∧ row.matchBits = 0x22000000) := by
  revert row
  decide

/-- Settles O3: a row without operands holds one word, one with operands reads its fields, and a word that decodes
matches a row. -/
theorem decodeFollowsOpcodeMap : Obligations.DecodeFollowsOpcodeMap := by
  intro w
  refine ⟨decode_of_eq_encode .nop rfl, decode_of_eq_encode .softReset rfl, decode_of_eq_encode .scrReset rfl,
    decode_of_eq_encode .scrNext rfl, fun h => ?scrAdvance, fun h => ?mapEnc, fun h => ?mapDec, fun h => ?txSym,
    decode_of_eq_encode .rxSym rfl, fun h => ?layoutClass, decode_of_eq_encode .syncCfg rfl,
    decode_of_eq_encode .syncReset rfl, decode_of_eq_encode .syncPush rfl, decode_of_eq_encode .corrReset rfl,
    decode_of_eq_encode .corrPush rfl, decode_of_eq_encode .corrSweep rfl, fun i h => ?onlyRows⟩
  case scrAdvance =>
    refine decode_of_matches (row := ⟨0x12, _, _⟩) (by decide) h ?_
    exact congrArg (fun n => some (Instr.scrAdvance n)) (bits_zero w 15)
  case mapEnc =>
    refine decode_of_matches (row := ⟨0x20, _, _⟩) (by decide) h ?_
    exact congrArg (fun n => some (Instr.mapEnc n _)) (bits_zero w 2)
  case mapDec =>
    exact decode_of_matches (row := ⟨0x21, _, _⟩) (by decide) h rfl
  case txSym =>
    refine decode_of_matches (row := ⟨0x22, _, _⟩) (by decide) h ?_
    exact congrArg (fun n => some (Instr.txSym n)) (bits_zero w 2)
  case layoutClass =>
    refine decode_of_matches (row := ⟨0x28, _, _⟩) (by decide) h ?_
    exact congrArg (fun n => some (Instr.layoutClass n)) (bits_zero w 15)
  case onlyRows =>
    obtain ⟨row, hrow, hmatch, -⟩ := exists_row_of_decode h
    obtain ⟨hmask, hbits⟩ | ⟨hmask, hbits⟩ | ⟨hmask, hbits⟩ | ⟨hmask, hbits⟩ | ⟨hmask, hbits⟩ := format_of_mem hrow
    · rw [hmask, BitVec.and_allOnes] at hmatch
      exact .inl (hmatch ▸ hbits)
    · rw [hmask] at hmatch
      exact .inr (.inl (hmatch ▸ hbits))
    · exact .inr (.inr (.inl (hmask ▸ hmatch.trans hbits)))
    · exact .inr (.inr (.inr (.inl (hmask ▸ hmatch.trans hbits))))
    · exact .inr (.inr (.inr (.inr (hmask ▸ hmatch.trans hbits))))

/-- Settles O5, by the words' encodings and by the two illegal words' rows. -/
theorem sampleWordsDecode : Obligations.SampleWordsDecode :=
  ⟨decode_of_eq_encode _ rfl rfl, decode_of_eq_encode _ rfl rfl, decode_of_eq_encode _ rfl rfl,
    decode_of_eq_encode _ rfl rfl, decode_of_eq_encode _ rfl rfl, decode_of_eq_encode _ rfl rfl,
    decode_of_eq_encode _ rfl rfl, rfl, rfl⟩

/-! ### Illegal words (R117, R405) -/

/-- The listed OP values (R121), as what the ranges of R117 leave. -/
theorem op_range_of_mem {row : OpcodeRow} (h : row ∈ opcodeMap) :
    row.op < 0x02 ∨ (0x0F < row.op ∧ row.op < 0x13) ∨ (0x1F < row.op ∧ row.op < 0x24) ∨ row.op = 0x28 ∨
      (0x2F < row.op ∧ row.op < 0x33) ∨ (0x3F < row.op ∧ row.op < 0x43) := by
  revert row
  decide

/-- The must-be-zero bits below OP of each row (R117). -/
theorem reservedBits_of_mem {row : OpcodeRow} (h : row ∈ opcodeMap) :
    (row.op ∈ [0x00, 0x01, 0x10, 0x11, 0x23, 0x30, 0x31, 0x32, 0x40, 0x41, 0x42] →
      row.mask &&& 0x00FFFFFF = 0x00FFFFFF) ∧
    (row.op ∈ [0x12, 0x28] → row.mask &&& 0x00FFFFFF = 0x00FF0000) ∧
    (row.op = 0x20 → row.mask &&& 0x00FFFFFF = 0x00FFFF88) ∧
    (row.op = 0x21 → row.mask &&& 0x00FFFFFF = 0x00FFFF8F) ∧
    (row.op = 0x22 → row.mask &&& 0x00FFFFFF = 0x00FFFFF8) := by
  revert row
  decide

/-- A word that decodes has the OP of a row, and none of the row's must-be-zero bits set (R117). -/
theorem exists_row_reserved_eq_zero {w : Word} {i : Instr} (h : decode w = .ok i) :
    ∃ row ∈ opcodeMap, row.op = w.toNat / 2 ^ 24 ∧ w &&& (row.mask &&& 0x00FFFFFF) = 0 := by
  obtain ⟨row, hrow, hmatch, -⟩ := exists_row_of_decode h
  have hbelowOp : ∀ row ∈ opcodeMap, row.matchBits &&& 0x00FFFFFF = 0 := by decide
  refine ⟨row, hrow, ?_, ?_⟩
  · rw [← op_of_matches hrow hmatch, bits]
    omega
  · rw [← BitVec.and_assoc, hmatch, hbelowOp row hrow]

/-- An illegal word completes as ILLEGAL_CMD and performs nothing (R311, R405). -/
theorem complete_of_illegal {s : State} {w : Word} (hpend : s.pending = some w) (hillegal : ∀ i, decode w ≠ .ok i) :
    complete s = .next (s.retire.recordError .illegalCmd) := by
  cases hdecode : decode w with
  | ok i => exact absurd hdecode (hillegal i)
  | error e => simp only [complete, hpend, hdecode, raiseError_eq_next]

/-- Settles O4: were the word legal, its OP would be a row's, outside the unlisted ranges, and the row's must-be-zero
bits would be 0. -/
theorem illegalWordsRecordIllegalCmd : Obligations.IllegalWordsRecordIllegalCmd := by
  intro s w op hop hcase hpend hhead
  have hillegal : ∀ i, decode w ≠ .ok i := by
    intro i hdecode
    obtain ⟨row, hrow, hrowOp, hzero⟩ := exists_row_reserved_eq_zero hdecode
    obtain rfl : row.op = op := hrowOp.trans hop.symm
    have hlisted := op_range_of_mem hrow
    obtain ⟨hcz, hcn, henc, hdec, htx⟩ := reservedBits_of_mem hrow
    obtain h | h | h | h | h | h | ⟨h, hset⟩ | ⟨h, hset⟩ | ⟨h, hset⟩ | ⟨h, hset⟩ | ⟨h, hset⟩ := hcase
    iterate 6
      · omega
    · exact hset (hcz h ▸ hzero)
    · exact hset (hcn h ▸ hzero)
    · exact hset (henc h ▸ hzero)
    · exact hset (hdec h ▸ hzero)
    · exact hset (htx h ▸ hzero)
  obtain ⟨rest, hin⟩ := List.head?_eq_some_iff.1 hhead
  rw [StepLaws.step_of_inbox_cons s _ rest hin]
  exact complete_of_illegal (s := s.taken) hpend hillegal

end Sys2Proof.DecoderLaws
end

section
/-! # The scrambler's register (40_scrambler.md R140 to R143)

One clock stage by stage, and the period of the clock (O12). The orbit of 1 has 4095 elements, since no maximal proper
divisor of 4095 is a period of 1; so it holds every non-zero value, and each of them has the period of 1. -/

namespace Sys2Proof.ScramblerLaws

open Sys2Proof Sys2Proof.Machine

/-! ### One clock -/

theorem carry_iff (r : BitVec 12) : r.toNat / 2 ^ 11 = 1 ↔ r.getLsbD 11 = true := by
  rw [BitVec.getLsbD, Nat.testBit_eq_decide_div_mod_eq, decide_eq_true_eq]
  omega

theorem scrClock_eq_ite (r : BitVec 12) : scrClock r = if r.getLsbD 11 then (r <<< 1) ^^^ 0x053 else r <<< 1 := by
  simp only [scrClock, carry_iff, scrFb]

theorem scrClock_stage_zero (r : BitVec 12) : (scrClock r).getLsbD 0 = r.getLsbD 11 := by
  rw [scrClock_eq_ite]
  cases h : r.getLsbD 11 <;> simp

/-- A stage takes the one below it, and the carry where the feedback mask has a tap (R142). -/
theorem scrClock_stage_succ (r : BitVec 12) {k : Nat} (hk : k + 1 < 12) :
    (scrClock r).getLsbD (k + 1) = (r.getLsbD k ^^ (r.getLsbD 11 && scrFb.getLsbD (k + 1))) := by
  have hstage : r.getLsbD k = r[k] := BitVec.getLsbD_eq_getElem (by omega)
  rw [scrClock_eq_ite, hstage]
  cases h : r.getLsbD 11 <;> simp [scrFb, hk]

/-- No tap stands above stage 6 (R140). -/
theorem scrFb_stage_of_seven_le {k : Nat} (hk : 7 ≤ k) : scrFb.getLsbD k = false := by
  rw [BitVec.getLsbD]
  exact Nat.testBit_lt_two_pow (lt_of_lt_of_le (by decide) (Nat.pow_le_pow_right (by decide) hk))

/-! ### Many clocks -/

theorem scrClocks_eq_iterate (n : Nat) (r : BitVec 12) : scrClocks n r = scrClock^[n] r := by
  induction n generalizing r with
  | zero => rfl
  | succ n ih => exact ih (scrClock r)

theorem scrClocks_succ (n : Nat) (r : BitVec 12) : scrClocks (n + 1) r = scrClock (scrClocks n r) := by
  simp only [scrClocks_eq_iterate, Function.iterate_succ_apply']

theorem scrClocks_add (m n : Nat) (r : BitVec 12) : scrClocks (m + n) r = scrClocks n (scrClocks m r) := by
  simp only [scrClocks_eq_iterate, Nat.add_comm m n, Function.iterate_add_apply]

theorem scrClocks_zero_value (n : Nat) : scrClocks n 0 = 0 := by
  rw [scrClocks_eq_iterate]
  exact Function.iterate_fixed (by decide) n

theorem isPeriodicPt_scrClock_iff (n : Nat) (r : BitVec 12) :
    Function.IsPeriodicPt scrClock n r ↔ scrClocks n r = r := by
  rw [scrClocks_eq_iterate]
  rfl

/-! ### The orbit of 1 -/

/-- The orbit of 1 at every 455th clock, until it closes. -/
def orbitCheckpoint (i : Nat) : BitVec 12 :=
  [0x001, 0x2A6, 0x1CB, 0x046, 0x46A, 0x7C3, 0x047, 0x6CC, 0x608, 0x001].getD i 0

theorem scrClocks_orbitCheckpoint : ∀ i < 9, scrClocks 455 (orbitCheckpoint i) = orbitCheckpoint (i + 1) := by
  decide +kernel

theorem scrClocks_mul_455 {i : Nat} (hi : i ≤ 9) : scrClocks (455 * i) 1 = orbitCheckpoint i := by
  induction i with
  | zero => rfl
  | succ i ih => rw [Nat.mul_succ, scrClocks_add, ih (by omega), scrClocks_orbitCheckpoint i (by omega)]

theorem isPeriodicPt_4095_one : Function.IsPeriodicPt scrClock 4095 1 := by
  rw [isPeriodicPt_scrClock_iff, show 4095 = 455 * 9 by decide, scrClocks_mul_455 (le_refl 9)]
  rfl

/-- The greatest proper divisors of 4095 are no periods of 1. -/
theorem not_isPeriodicPt_one : ∀ n ∈ [1365, 819, 585, 315], ¬Function.IsPeriodicPt scrClock n 1 := by
  simp only [isPeriodicPt_scrClock_iff, List.forall_mem_cons]
  refine ⟨?_, ?_, ?_, ?_⟩
  · rw [scrClocks_mul_455 (i := 3) (by decide)]
    decide
  · rw [scrClocks_add 455 364, scrClocks_mul_455 (i := 1) (by decide)]
    decide +kernel
  · rw [scrClocks_add 455 130, scrClocks_mul_455 (i := 1) (by decide)]
    decide +kernel
  · decide +kernel

theorem divisor_of_4095 : ∀ d ∈ Nat.divisors 4095, d = 4095 ∨ ∃ n ∈ [1365, 819, 585, 315], d ∣ n := by
  decide +kernel

theorem minimalPeriod_scrClock_one : Function.minimalPeriod scrClock 1 = 4095 := by
  have hdvd : Function.minimalPeriod scrClock 1 ∣ 4095 := isPeriodicPt_4095_one.minimalPeriod_dvd
  obtain h | ⟨n, hn, hd⟩ := divisor_of_4095 _ (Nat.mem_divisors.2 ⟨hdvd, by decide⟩)
  · exact h
  · exact absurd (Function.isPeriodicPt_iff_minimalPeriod_dvd.2 hd) (not_isPeriodicPt_one n hn)

/-- A clock that reached 0 would stay there, and the orbit of 1 comes back to 1. -/
theorem scrClocks_one_ne_zero {n : Nat} (hn : n < 4095) : scrClocks n 1 ≠ 0 := by
  intro hzero
  have hback : scrClocks (n + (4095 - n)) 1 = 1 := by
    rw [Nat.add_sub_cancel' hn.le]
    exact (isPeriodicPt_scrClock_iff 4095 1).1 isPeriodicPt_4095_one
  rw [scrClocks_add, hzero, scrClocks_zero_value] at hback
  exact absurd hback (by decide)

/-- The orbit of 1 holds every non-zero value: it has as many elements as there are. -/
theorem exists_scrClocks_one_eq {r : BitVec 12} (hr : r ≠ 0) : ∃ n, scrClocks n 1 = r := by
  have hinj : Set.InjOn (fun n => scrClocks n 1) (Finset.range 4095) := by
    intro m hm n hn h
    rw [Finset.coe_range, Set.mem_Iio, ← minimalPeriod_scrClock_one] at hm hn
    simp only [scrClocks_eq_iterate] at h
    exact Function.iterate_injOn_Iio_minimalPeriod hm hn h
  have hsub : (Finset.range 4095).image (fun n => scrClocks n 1) ⊆ Finset.univ.erase 0 := by
    intro x hx
    obtain ⟨n, hn, rfl⟩ := Finset.mem_image.1 hx
    exact Finset.mem_erase.2 ⟨scrClocks_one_ne_zero (Finset.mem_range.1 hn), Finset.mem_univ _⟩
  have hcard : (Finset.univ.erase (0 : BitVec 12)).card = 4095 := by
    rw [Finset.card_erase_of_mem (Finset.mem_univ _), Finset.card_univ,
      Fintype.card_congr BitVec.equivFin.toEquiv, Fintype.card_fin]
    rfl
  have horbit := Finset.eq_of_subset_of_card_le hsub
    (by rw [hcard, Finset.card_image_of_injOn hinj, Finset.card_range])
  have hmem : r ∈ (Finset.range 4095).image (fun n => scrClocks n 1) := by
    rw [horbit]
    exact Finset.mem_erase.2 ⟨hr, Finset.mem_univ _⟩
  obtain ⟨n, -, hn⟩ := Finset.mem_image.1 hmem
  exact ⟨n, hn⟩

theorem minimalPeriod_scrClock {r : BitVec 12} (hr : r ≠ 0) : Function.minimalPeriod scrClock r = 4095 := by
  obtain ⟨n, rfl⟩ := exists_scrClocks_one_eq hr
  have hperiodic : (1 : BitVec 12) ∈ Function.periodicPts scrClock :=
    Function.mk_mem_periodicPts (by decide) isPeriodicPt_4095_one
  rw [scrClocks_eq_iterate, Function.minimalPeriod_apply_iterate hperiodic, minimalPeriod_scrClock_one]

/-- Settles O12, by the stages of one clock and the period of the orbit that every non-zero value is on. -/
theorem scramblerClockIsMaximalLength : Obligations.ScramblerClockIsMaximalLength := by
  refine ⟨fun r => ?stages, by decide, fun r hr => ?period⟩
  case stages =>
    have hstage {k : Nat} (hk : k + 1 < 12) := scrClock_stage_succ r hk
    refine ⟨scrClock_stage_zero r, ?_, ?_, ?_, ?_, ?_, ?_, fun k h7 h11 => ?_⟩
    iterate 6
      · rw [hstage (by decide)]
        simp [scrFb]
    · obtain ⟨j, rfl⟩ : ∃ j, k = j + 1 := ⟨k - 1, by omega⟩
      rw [hstage (by omega), scrFb_stage_of_seven_le h7, Bool.and_false, Bool.xor_false, Nat.add_sub_cancel]
  case period =>
    have hperiod := minimalPeriod_scrClock hr
    constructor
    · rw [← isPeriodicPt_scrClock_iff, ← hperiod]
      exact Function.isPeriodicPt_minimalPeriod scrClock r
    · intro n hpos hlt
      rw [Ne, ← isPeriodicPt_scrClock_iff]
      exact Function.not_isPeriodicPt_of_pos_of_lt_minimalPeriod hpos.ne' (hperiod ▸ hlt)

end Sys2Proof.ScramblerLaws
end

section
/-! # The scrambler's commands and its sequence (40_scrambler.md R143 to R150)

SCR_NEXT and SCR_ADVANCE said once (O13), and repeated SCR_NEXT as one `scrAdvance` (O15). Along `next()` operations the
position counts modulo 160 and names the register (`Aligned`), so the sequence is the 160 entries of S again and again
(O14, O16). -/

namespace Sys2Proof.ScramblerLaws

open Sys2Proof Sys2Proof.Machine Sys2Proof.Safety Sys2Proof.StateLaws

/-! ### The commands -/

/-- RESULT where only STRIB is defined (R44). -/
theorem resultWord_strib {t : Nat} (ht : t < 8) : resultWord 0 0 t 0 = BitVec.ofNat 32 (256 * t) := by
  rw [resultWord_eq_sum 0 0 t 0 (by decide) (by decide) ht (by decide)]
  congr 1
  omega

/-- The last of at least one `next()` gives a tribit. -/
theorem scrAdvance_tribit_lt (n : Nat) (p : Scrambler × Nat) : (scrAdvance (n + 1) p).2 < 8 := by
  induction n generalizing p with
  | zero => exact scrNext_tribit_lt p.1
  | succ n ih => exact ih (scrNext p.1)

/-- `next()` operations do not read the tribit of the operation before. -/
theorem scrAdvance_succ_congr (n : Nat) {p q : Scrambler × Nat} (h : p.1 = q.1) :
    scrAdvance (n + 1) p = scrAdvance (n + 1) q := by
  rw [scrAdvance_succ, scrAdvance_succ, h]

theorem exec_scrNext (s : State) :
    exec .scrNext s = .next { s with
      scr := (scrNext s.scr).1
      result := BitVec.ofNat 32 (256 * (scrNext s.scr).2) } := by
  rw [← resultWord_strib (scrNext_tribit_lt s.scr)]
  rfl

theorem exec_scrAdvance_succ (n : Nat) (s : State) :
    exec (.scrAdvance (n + 1)) s = .next { s with
      scr := (scrAdvance (n + 1) (s.scr, 0)).1
      result := BitVec.ofNat 32 (256 * (scrAdvance (n + 1) (s.scr, 0)).2) } := by
  rw [← resultWord_strib (scrAdvance_tribit_lt n _)]
  rfl

/-- Repeated SCR_NEXT moves the scrambler as SCR_ADVANCE does, and RESULT is the last one's (R147, R148). -/
theorem execTimes_scrNext (n : Nat) (s : State) :
    execTimes .scrNext (n + 1) s = exec (.scrAdvance (n + 1)) s := by
  induction n generalizing s with
  | zero => exact (exec_scrNext s).trans (exec_scrAdvance_succ 0 s).symm
  | succ n ih =>
    rw [execTimes, exec_scrNext]
    dsimp only
    rw [ih, exec_scrAdvance_succ, exec_scrAdvance_succ, scrAdvance_succ (n + 1),
      scrAdvance_succ_congr n (p := scrNext s.scr) (q := ((scrNext s.scr).1, 0)) rfl]

/-- Settles O13: the eight values of the register are those of 0 to 8 clocks. -/
theorem scrNextGeneratesATribit : Obligations.ScrNextGeneratesATribit := by
  refine ⟨DecoderLaws.decode_of_eq_encode .scrNext rfl rfl, fun s => ?_⟩
  refine ⟨fun k => scrClocks k s.scr.reg, rfl, ?_, ?_⟩
  · exact fun k _ => (scrClocks_succ k s.scr.reg).trans (scrClock_eq_ite _)
  · exact exec_scrNext s

/-- Settles O15, by `execTimes_scrNext`. -/
theorem scrAdvanceIsRepeatedNext : Obligations.ScrAdvanceIsRepeatedNext := by
  intro count s
  refine ⟨?_, fun hcount => ?_⟩
  · rintro rfl
    rfl
  · obtain ⟨n, rfl⟩ : ∃ n, count = n + 1 := ⟨count - 1, by omega⟩
    rw [execTimes_scrNext, exec_scrAdvance_succ]
    exact ⟨_, rfl, rfl⟩

/-! ### Positions -/

/-- Every scrambler that `next()` operations reach from SCR_INIT is aligned (R143). -/
theorem aligned_scramblerAfter (n : Nat) : Aligned (scramblerAfter n) := by
  induction n with
  | zero => exact aligned_loadedScrambler
  | succ n ih => exact Aligned.scrNext ih

theorem scramblerAfter_pos (n : Nat) : (scramblerAfter n).pos = n % 160 := by
  induction n with
  | zero => rfl
  | succ n ih =>
    rw [scramblerAfter]
    obtain ⟨hpos, heq⟩ | ⟨hpos, heq⟩ := scrNext_cases (scramblerAfter n)
    all_goals
      simp only [heq, loadedScrambler]
      omega

/-- The scrambler repeats after 160 operations: it is aligned, and its position does (R143). -/
theorem scramblerAfter_mod (n : Nat) : scramblerAfter (n % 160) = scramblerAfter n := by
  rw [← scramblerAfter_pos]
  exact (aligned_scramblerAfter n).reg_eq.symm

/-! ### The sequence -/

/-- The table S is what the register gives in one period (R144). -/
theorem scrNext_tribit_eq_scrRom : ∀ k < 160, (scrNext (scramblerAfter k)).2 = scrRom.getD k 0 := by
  decide +kernel

theorem scrNext_scramblerAfter (k : Nat) : scrNext (scramblerAfter k) = (scramblerAfter (k + 1), scrS k) := by
  refine Prod.ext rfl ?_
  rw [← scramblerAfter_mod, scrNext_tribit_eq_scrRom _ (Nat.mod_lt _ (by decide)), scrS, Config.scrPeriod]

/-- From k operations after the load, n + 1 more end with the tribit S[k + n] (R144). -/
theorem scrAdvance_scramblerAfter (k n t : Nat) :
    scrAdvance (n + 1) (scramblerAfter k, t) = (scramblerAfter (k + n + 1), scrS (k + n)) := by
  induction n generalizing k t with
  | zero => exact scrNext_scramblerAfter k
  | succ n ih =>
    rw [scrAdvance_succ, scrNext_scramblerAfter, ih]
    simp only [Nat.add_comm, Nat.add_left_comm]

theorem scrS_mod (k : Nat) : scrS (k % 160) = scrS k := by
  rw [scrS, scrS, Config.scrPeriod, Nat.mod_mod]

/-- Settles O16: the aligned scrambler is the one its position's number of operations leave. -/
theorem scrAdvanceFromAlignedPosition : Obligations.ScrAdvanceFromAlignedPosition := by
  intro s count haligned hcount
  obtain ⟨n, rfl⟩ : ∃ n, count = n + 1 := ⟨count - 1, by omega⟩
  have hadvance : scrAdvance (n + 1) (s.scr, 0) = (scramblerAfter (s.scr.pos + n + 1), scrS (s.scr.pos + n)) := by
    conv_lhs => rw [haligned.reg_eq]
    exact scrAdvance_scramblerAfter s.scr.pos n 0
  rw [exec_scrAdvance_succ, hadvance, scramblerAfter_mod, scrS_mod]
  rfl

/-- Settles O14: the loaded scrambler is aligned at position 0, so the repeated SCR_NEXT is O16's SCR_ADVANCE. -/
theorem scramblerSequence : Obligations.ScramblerSequence := by
  intro s j
  refine ⟨rfl, ?_⟩
  rw [execTimes_scrNext, scrAdvanceFromAlignedPosition _ (j + 1) aligned_loadedScrambler (Nat.succ_pos j)]
  simp only [Nat.zero_add, Nat.add_sub_cancel]

end Sys2Proof.ScramblerLaws
end

section
/-! # A transmitter and a receiver in lock step (40_scrambler.md R145, 41_mapper.md R174 to R184)

Each constellation point scores highest with itself, so `map_decode` finds the point that `map_encode` chose, and from it
the data tribit. Where both ends' scramblers agree, RX_SYM therefore recovers what TX_SYM sent, and they agree again
after it; so they do along every message (O24). -/

namespace Sys2Proof.MapperLaws

open Sys2Proof Sys2Proof.Machine Sys2Proof.Safety

/-! ### Tables -/

theorem gray_lt {n d : Nat} (hn : n = 8 ∨ n = 4) (hd : d < n) : gray n d < n := by
  obtain rfl | rfl := hn <;> revert d <;> decide

theorem grayInv_gray {n d : Nat} (hn : n = 8 ∨ n = 4) (hd : d < n) : grayInv n (gray n d) = d := by
  obtain rfl | rfl := hn <;> revert d <;> decide

/-- Every point sent is a valid point (R170, R177). -/
theorem validSample_constellation {n k : Nat} (hn : n = 8 ∨ n = 4) (hk : k < n) :
    validSample (constellation n k) = true := by
  obtain rfl | rfl := hn <;> revert k <;> decide

/-- A point scores higher with itself than with any other point of its constellation (R170, R175). -/
theorem fgt_score_self {n : Nat} (hn : n = 8 ∨ n = 4) : ∀ i < n, ∀ k < n, k ≠ i →
    fgt (reDot (constellation n i) (constellation n i)) (reDot (constellation n i) (constellation n k)) = true := by
  obtain rfl | rfl := hn <;> decide +kernel

/-! ### Decoding what was encoded (R182) -/

/-- Rotations of a position below n by the same tribit agree only for the same position. -/
theorem eq_of_add_mod_eq {n j k s : Nat} (hj : j < n) (hk : k < n) (h : (j + s) % n = (k + s) % n) : j = k :=
  Nat.ModEq.eq_of_lt_of_lt (Nat.ModEq.add_right_cancel' s h) hj hk

theorem decodeSearch_jbest (n : Nat) (p : Cplx) (s : Nat) :
    (decodeSearch n p s).jbest = (sweepSearch (fun j => reDot p (constellation n ((j + s) % n))) n).tbest := by
  rw [decodeSearch, decodeSearch_eq]

/-- `map_decode` finds the position whose rotation is the point (R175). -/
theorem decodeSearch_constellation {n j : Nat} (hn : n = 8 ∨ n = 4) (hj : j < n) (s : Nat) :
    (decodeSearch n (constellation n ((j + s) % n)) s).jbest = j := by
  have hpos : 0 < n := by omega
  obtain ⟨m, rfl⟩ : ∃ m, n = m + 1 := ⟨n - 1, by omega⟩
  obtain ⟨tau, hlt, heq, hmax, -⟩ :=
    sweepSearch_spec (fun k => reDot (constellation (m + 1) ((j + s) % (m + 1)))
      (constellation (m + 1) ((k + s) % (m + 1)))) m
  rw [decodeSearch_jbest, heq]
  by_contra hne
  have hindex : (tau + s) % (m + 1) ≠ (j + s) % (m + 1) := fun h => hne (eq_of_add_mod_eq hlt hj h)
  have hbetter := fgt_score_self hn _ (Nat.mod_lt _ hpos) _ (Nat.mod_lt _ hpos) hindex
  exact absurd hbetter (Bool.eq_false_iff.1 (hmax j hj))

/-- The low field of RESULT is TRIBIT (R44). -/
theorem bits_resultWord_tribit {t : Nat} (ht : t < 8) (i st c : Nat) : bits (resultWord t i st c) 2 0 = t := by
  rw [DecoderLaws.bits_zero, resultWord_toNat]
  omega

/-- Decoding the point of an encoded tribit gives the tribit (R182). -/
theorem bits_writeDecoded_encoded {s : State} {d t : Nat} (hd : d < s.order)
    (hpoint : s.point = constellation s.order (mapIndex s.order d t)) :
    bits (s.writeDecoded t).result 2 0 = d := by
  have hn := order_eight_or_four s
  rw [State.writeDecoded_result, hpoint, mapIndex, decodeSearch_constellation hn (gray_lt hn hd), grayInv_gray hn hd,
    bits_resultWord_tribit (by omega)]

/-! ### One symbol (R183, R184) -/

theorem order_eq_of_mode_eq {s t : State} (h : s.mode = t.mode) : s.order = t.order := by
  rw [State.order, State.order, h]

/-- What a symbol leaves of an end: its scrambler one operation on, its mode, error record and events as they were. -/
structure MovedOneSymbol (s t : State) : Prop where
  scr_moved : t.scr = (scrNext s.scr).1
  mode_kept : t.mode = s.mode
  err_kept : t.err = s.err
  errCode_kept : t.errCode = s.errCode
  irqPend_kept : t.irqPend = s.irqPend

theorem movedOneSymbol_writeEncoded (s : State) (d t : Nat) :
    MovedOneSymbol s ((s.setScr (scrNext s.scr).1).writeEncoded d t) := by
  constructor <;> simp

theorem movedOneSymbol_writeDecoded (s : State) (t : Nat) :
    MovedOneSymbol s ((s.setScr (scrNext s.scr).1).writeDecoded t) := by
  constructor <;> simp

/-- TX_SYM sends the tribit rotated by the next scrambler tribit (R183). -/
theorem exec_txSym_of_lt {s : State} {d : Nat} (hd : d < s.order) :
    ∃ t, exec (.txSym d) s = .next t ∧ MovedOneSymbol s t ∧
      t.point = constellation s.order (mapIndex s.order d (scrNext s.scr).2) :=
  ⟨_, if_neg (not_le.2 hd), movedOneSymbol_writeEncoded s d _, rfl⟩

/-- RX_SYM of a tribit rotated by the receiver's next scrambler tribit recovers it (R182, R184). -/
theorem exec_rxSym_of_encoded {s : State} {d : Nat} (hd : d < s.order)
    (hpoint : s.point = constellation s.order (mapIndex s.order d (scrNext s.scr).2)) :
    ∃ t, exec .rxSym s = .next t ∧ MovedOneSymbol s t ∧ bits t.result 2 0 = d := by
  have hvalid : validSample s.point = true := by
    rw [hpoint]
    exact validSample_constellation (order_eight_or_four s) (Nat.mod_lt _ (order_pos s))
  have hbits := bits_writeDecoded_encoded (s := s.setScr (scrNext s.scr).1) hd hpoint
  exact ⟨_, if_pos hvalid, movedOneSymbol_writeDecoded s _, hbits⟩

/-- One symbol sent, and received by an end of the same order whose scrambler agrees. -/
theorem symbol_recovered {tx rx : State} {d : Nat} (horder : rx.order = tx.order) (hscr : rx.scr = tx.scr)
    (hd : d < tx.order) :
    ∃ tx' rx', exec (.txSym d) tx = .next tx' ∧ MovedOneSymbol tx tx' ∧
      exec .rxSym { rx with ptI := tx'.ptI, ptQ := tx'.ptQ } = .next rx' ∧ MovedOneSymbol rx rx' ∧
      bits rx'.result 2 0 = d := by
  obtain ⟨tx', hsend, htx, hpoint⟩ := exec_txSym_of_lt hd
  rw [← horder, ← hscr] at hpoint
  obtain ⟨rx', hreceive, hrx, hbits⟩ :=
    exec_rxSym_of_encoded (s := { rx with ptI := tx'.ptI, ptQ := tx'.ptQ }) (horder ▸ hd) hpoint
  exact ⟨tx', rx', hsend, htx, hreceive, { hrx with }, hbits⟩

/-! ### Messages (R145) -/

/-- Settles O24, by induction on the message: after its first symbol the two ends agree again. -/
theorem loopbackRecoversEveryMessage : Obligations.LoopbackRecoversEveryMessage := by
  intro tx rx message horder hscr hmessage
  induction message generalizing tx rx with
  | nil => exact ⟨[], tx, rx, rfl, rfl, hscr, rfl, rfl, rfl, rfl, rfl, rfl, rfl⟩
  | cons d ds ih =>
    obtain ⟨hd, hds⟩ := List.forall_mem_cons.1 hmessage
    obtain ⟨tx₁, rx₁, hsend, htx, hreceive, hrx, hbits⟩ := symbol_recovered horder hscr hd
    have htxOrder : tx₁.order = tx.order := order_eq_of_mode_eq htx.mode_kept
    have hrxOrder : rx₁.order = tx₁.order := (order_eq_of_mode_eq hrx.mode_kept).trans (horder.trans htxOrder.symm)
    have hscr₁ : rx₁.scr = tx₁.scr := by rw [hrx.scr_moved, htx.scr_moved, hscr]
    obtain ⟨points, tx', rx', htransmit, hreceived, hscr', hlength, htxErr, htxCode, htxPend, hrxErr, hrxCode,
      hrxPend⟩ := ih tx₁ rx₁ hrxOrder hscr₁ (htxOrder.symm ▸ hds)
    refine ⟨tx₁.point :: points, tx', rx', ?_, ?_, hscr', congrArg Nat.succ hlength, htxErr.trans htx.err_kept,
      htxCode.trans htx.errCode_kept, htxPend.trans htx.irqPend_kept, hrxErr.trans hrx.err_kept,
      hrxCode.trans hrx.errCode_kept, hrxPend.trans hrx.irqPend_kept⟩
    · simp only [transmit, hsend, htransmit, Option.map_some]
    · simp only [receive, State.point, hreceive, hreceived, hbits, Option.map_some]

end Sys2Proof.MapperLaws
end

section
/-! # The mapper's tables and commands (41_mapper.md R170 to R184)

The tables entry by entry (O18). RESULT is the sum of its fields, because every tribit and every position below N fits
its field; so the encoding and the decoding commands are said once as state updates (O19, O20, O22, O23). The search of
`map_decode` answers the score of the position it answers, so decoding an encoded point, which finds the encoded
position, gives the point's energy (O21). -/

namespace Sys2Proof.MapperLaws

open Sys2Proof Sys2Proof.Machine Sys2Proof.DecoderLaws

/-! ### Gray maps (R171 to R173) -/

theorem grayInv_lt {n j : Nat} (hn : n = 8 ∨ n = 4) (hj : j < n) : grayInv n j < n := by
  obtain rfl | rfl := hn <;> revert j <;> decide

theorem gray_grayInv {n j : Nat} (hn : n = 8 ∨ n = 4) (hj : j < n) : gray n (grayInv n j) = j := by
  obtain rfl | rfl := hn <;> revert j <;> decide

theorem grayInv_eq_xor {n j : Nat} (hn : n = 8 ∨ n = 4) (hj : j < n) : grayInv n j = j ^^^ (j >>> 1) := by
  obtain rfl | rfl := hn <;> revert j <;> decide

/-- Neighbours on the circle differ in one bit of three (R173). -/
theorem grayInv_adjacent {n j : Nat} (hn : n = 8 ∨ n = 4) (hj : j < n) :
    grayInv n j ^^^ grayInv n ((j + 1) % n) ∈ [1, 2, 4] := by
  obtain rfl | rfl := hn <;> revert j <;> decide

/-- An axis point of C8 has energy 1.0, a diagonal one the f32 below 1.0 (R170). -/
theorem energy_c8 : (List.range 8).map (fun k => energy (constellation 8 k)) =
    [0x3F800000, 0x3F7FFFFF, 0x3F800000, 0x3F7FFFFF, 0x3F800000, 0x3F7FFFFF, 0x3F800000, 0x3F7FFFFF] := by
  decide +kernel

/-- Settles O18: the maps undo each other table by table, and the tables are the rules' own. -/
theorem grayMapsInvert : Obligations.GrayMapsInvert := by
  refine ⟨fun n hn => ⟨fun i hi => ?_, fun j hj => ?_, fun j hj => ?_⟩, rfl, rfl, rfl, rfl, rfl, rfl, energy_c8⟩
  · exact ⟨grayInv_gray hn hi, gray_lt hn hi⟩
  · exact ⟨gray_grayInv hn hj, grayInv_lt hn hj⟩
  · exact ⟨grayInv_eq_xor hn hj, grayInv_adjacent hn hj⟩

/-! ### RESULT (R44) -/

theorem order_le_eight (s : State) : s.order ≤ 8 := by
  obtain h | h := order_eight_or_four s <;> omega

theorem mod_order_lt (s : State) (k : Nat) : k % s.order < s.order := Nat.mod_lt k (order_pos s)

theorem mapIndex_lt (s : State) (d t : Nat) : mapIndex s.order d t < s.order := mod_order_lt s _

/-- RESULT of a mapper command: a data tribit and a position below N and a scrambler tribit each fit their field. -/
theorem resultWord_of_lt_order {s : State} {d i t : Nat} (hd : d < s.order) (hi : i < s.order) (ht : t < 8) :
    resultWord d i t 0 = BitVec.ofNat 32 (d + 16 * i + 256 * t) :=
  resultWord_eq_sum d i t 0 (hd.trans_le (order_le_eight s)) (hi.trans_le (order_le_eight s)) ht (by decide)

/-! ### Encoding (R174, R178, R183) -/

/-- What MAP_ENC and TX_SYM write of a data tribit below N. -/
theorem writeEncoded_eq {s : State} {d t : Nat} (hd : d < s.order) (ht : t < 8) :
    s.writeEncoded d t = { s with
      ptI := (constellation s.order (mapIndex s.order d t)).i
      ptQ := (constellation s.order (mapIndex s.order d t)).q
      result := BitVec.ofNat 32 (d + 16 * mapIndex s.order d t + 256 * t) } := by
  rw [← resultWord_of_lt_order hd (mapIndex_lt s d t) ht]
  rfl

theorem exec_mapEnc_of_lt {s : State} {d : Nat} (hd : d < s.order) (t : Nat) :
    exec (.mapEnc d t) s = .next (s.writeEncoded d t) := if_neg (not_le.2 hd)

theorem exec_mapEnc_of_le {s : State} {d : Nat} (hd : s.order ≤ d) (t : Nat) :
    exec (.mapEnc d t) s = .next (s.recordError .argRange) := if_pos hd

theorem exec_txSym_eq_of_lt {s : State} {d : Nat} (hd : d < s.order) :
    exec (.txSym d) s = .next ((s.setScr (scrNext s.scr).1).writeEncoded d (scrNext s.scr).2) :=
  if_neg (not_le.2 hd)

theorem exec_txSym_of_le {s : State} {d : Nat} (hd : s.order ≤ d) :
    exec (.txSym d) s = .next (s.recordError .argRange) := if_pos hd

/-- A word put together from a row's match and a command's operands (R113, R121). -/
theorem decode_matchBits_add {row : OpcodeRow} {i : Instr} (hrow : row ∈ opcodeMap) (hop : row.op = opOf i)
    (hwf : i.wellFormed = true) : decode (row.matchBits + BitVec.ofNat 32 (operandBits i)) = .ok i :=
  decode_of_eq_encode i hwf (encode_eq_add hrow hop).symm

theorem decode_mapEnc {d t : Nat} (hd : d < 8) (ht : t < 8) :
    decode (BitVec.ofNat 32 (0x20000000 + t * 16 + d)) = .ok (.mapEnc d t) := by
  have hwf : (Instr.mapEnc d t).wellFormed = true := Bool.and_eq_true_iff.2 ⟨tribitFits_iff.2 hd, tribitFits_iff.2 ht⟩
  rw [Nat.add_assoc, BitVec.ofNat_add]
  exact decode_matchBits_add (row := ⟨0x20, 0x20000000, 0xFFFFFF88⟩) (i := .mapEnc d t) (by decide) rfl hwf

theorem decode_txSym {d : Nat} (hd : d < 8) : decode (BitVec.ofNat 32 (0x22000000 + d)) = .ok (.txSym d) := by
  rw [BitVec.ofNat_add]
  exact decode_matchBits_add (row := ⟨0x22, 0x22000000, 0xFFFFFFF8⟩) (i := .txSym d) (by decide) rfl
    (tribitFits_iff.2 hd)

/-- Settles O19, by the two answers of MAP_ENC. -/
theorem mapEncResult : Obligations.MapEncResult := by
  intro d t s hd ht
  refine ⟨decode_mapEnc (Nat.lt_succ_iff.2 hd) (Nat.lt_succ_iff.2 ht), fun hlt => ?_, fun hle => ?_⟩
  · rw [exec_mapEnc_of_lt hlt, writeEncoded_eq hlt (Nat.lt_succ_iff.2 ht)]
    rfl
  · exact exec_mapEnc_of_le hle t

/-- Settles O22, by the two answers of TX_SYM. -/
theorem txSymResult : Obligations.TxSymResult := by
  intro d s hd
  refine ⟨decode_txSym (Nat.lt_succ_iff.2 hd), fun hlt => ?_, fun hle => ?_⟩
  · have ht := scrNext_tribit_lt s.scr
    refine ⟨(scrNext s.scr).1, (scrNext s.scr).2, rfl, Nat.lt_succ_iff.1 ht, ?_⟩
    rw [exec_txSym_eq_of_lt hlt, writeEncoded_eq (s := s.setScr (scrNext s.scr).1) hlt ht]
    rfl
  · exact exec_txSym_of_le hle

/-! ### Decoding (R175, R180, R182, R184) -/

/-- The search answers the first position that none exceeds, with its score (R175). -/
theorem decodeSearch_spec {n : Nat} (hn : 0 < n) (p : Cplx) (t : Nat) (score : Nat → F32)
    (hscore : ∀ j, score j = reDot p (constellation n ((j + t) % n))) :
    ∃ j, j < n ∧ decodeSearch n p t = ⟨some (score j), j⟩ ∧
      (∀ k, k < n → fgt (score k) (score j) = false) ∧ (∀ k, k < j → fge (score k) (score j) = false) := by
  obtain ⟨m, rfl⟩ := Nat.exists_eq_succ_of_ne_zero hn.ne'
  obtain ⟨j, hlt, heq, hmax, hfirst⟩ := sweepSearch_spec score m
  refine ⟨j, hlt, ?_, hmax, hfirst⟩
  rw [decodeSearch, decodeSearch_eq, ← funext hscore, heq]

/-- A rotated position is found with the energy of its point (R182). -/
theorem decodeSearch_self {n j : Nat} (hn : n = 8 ∨ n = 4) (hj : j < n) (t : Nat) :
    decodeSearch n (constellation n ((j + t) % n)) t = ⟨some (energy (constellation n ((j + t) % n))), j⟩ := by
  have hfound := decodeSearch_constellation hn hj t
  obtain ⟨k, -, hsearch, -⟩ := decodeSearch_spec (Nat.zero_lt_of_lt hj) (constellation n ((j + t) % n)) t _ fun _ => rfl
  obtain rfl : k = j := (congrArg DecodeBest.jbest hsearch).symm.trans hfound
  exact hsearch

/-- What MAP_DEC and RX_SYM write where the search answers j. -/
theorem writeDecoded_eq {s : State} {t j : Nat} {best : F32} (hj : j < s.order) (ht : t < 8)
    (hsearch : decodeSearch s.order s.point t = ⟨some best, j⟩) :
    s.writeDecoded t = { s with
      result := BitVec.ofNat 32 (grayInv s.order j + 16 * ((j + t) % s.order) + 256 * t)
      soft := best } := by
  rw [← resultWord_of_lt_order (grayInv_lt (order_eight_or_four s) hj) (mod_order_lt s _) ht, State.writeDecoded,
    hsearch]
  rfl

theorem exec_mapDec_of_valid {s : State} (hvalid : validSample s.point = true) (t : Nat) :
    exec (.mapDec t) s = .next (s.writeDecoded t) := if_pos hvalid

theorem exec_rxSym_of_valid {s : State} (hvalid : validSample s.point = true) :
    exec .rxSym s = .next ((s.setScr (scrNext s.scr).1).writeDecoded (scrNext s.scr).2) := if_pos hvalid

theorem exec_rxSym_of_invalid {s : State} (hinvalid : validSample s.point = false) :
    exec .rxSym s = .next (s.recordError .sampleInvalid) := if_neg (Bool.eq_false_iff.1 hinvalid)

/-- Settles O20, by `decodeSearch_spec`. -/
theorem mapDecChoosesBestCandidate : Obligations.MapDecChoosesBestCandidate := by
  intro t s score ht hvalid hscore
  obtain ⟨j, hlt, hsearch, hmax, hfirst⟩ := decodeSearch_spec (order_pos s) s.point t score hscore
  refine ⟨j, hlt, ?_, hmax, hfirst⟩
  rw [exec_mapDec_of_valid hvalid, writeDecoded_eq hlt (Nat.lt_succ_iff.2 ht) hsearch]

/-- Decoding an encoded point with its own tribit writes RESULT as it stands, and the point's energy (R182). -/
theorem writeDecoded_writeEncoded {s : State} {d : Nat} (hd : d < s.order) (t : Nat) :
    (s.writeEncoded d t).writeDecoded t =
      { s.writeEncoded d t with soft := energy (s.writeEncoded d t).point } := by
  have hn := order_eight_or_four s
  have hsearch : decodeSearch (s.writeEncoded d t).order (s.writeEncoded d t).point t =
      ⟨some (energy (s.writeEncoded d t).point), gray s.order d⟩ := decodeSearch_self hn (gray_lt hn hd) t
  have hdata : grayInv (s.writeEncoded d t).order (gray s.order d) = d := grayInv_gray hn hd
  rw [State.writeDecoded, hsearch, hdata]
  rfl

/-- Settles O21, by `writeDecoded_writeEncoded`. -/
theorem mapRoundTrip : Obligations.MapRoundTrip := by
  intro d t s hd _
  have hvalid : validSample (s.writeEncoded d t).point = true :=
    validSample_constellation (order_eight_or_four s) (mapIndex_lt s d t)
  refine ⟨s.writeEncoded d t, exec_mapEnc_of_lt hd t, ?_, ?_, rfl⟩
  · rw [exec_mapDec_of_valid hvalid, writeDecoded_writeEncoded hd]
    rfl
  · exact bits_resultWord_tribit (hd.trans_le (order_le_eight s)) _ _ _

/-- Settles O23: RX_SYM is MAP_DEC from the moved scrambler, whose point is the same. -/
theorem rxSymResult : Obligations.RxSymResult := by
  refine ⟨decode_of_eq_encode .rxSym rfl rfl, fun s => ⟨fun hvalid => ?_, exec_rxSym_of_invalid⟩⟩
  exact ⟨(scrNext s.scr).1, (scrNext s.scr).2, _, rfl, Nat.lt_succ_iff.1 (scrNext_tribit_lt s.scr),
    exec_rxSym_of_valid hvalid, exec_mapDec_of_valid (s := s.setScr (scrNext s.scr).1) hvalid _, rfl⟩

end Sys2Proof.MapperLaws
end

section
/-! # The superframe layout (42_layout.md R200 to R205)

A superframe is M mini-frames, and each classifies its positions as the first one does; so the PROBE positions are
counted by induction on the mini-frames (O27). LAYOUT_CLASS has one answer per class of its position (O26), and a
template slot has its entry by the same class, with the point of the INDEX that LAYOUT_CLASS reports (O28). -/

namespace Sys2Proof.LayoutLaws

open Sys2Proof Sys2Proof.Machine Sys2Proof.DecoderLaws Sys2Proof.MapperLaws

/-! ### Classification (R200) -/

theorem isProbe_eq_true_iff (s : State) (pos : Nat) : s.isProbe pos = true ↔ s.dataRun ≤ pos % s.mfLen :=
  decide_eq_true_iff

theorem isProbe_eq_false_iff (s : State) (pos : Nat) : s.isProbe pos = false ↔ pos % s.mfLen < s.dataRun :=
  decide_eq_false_iff_not.trans not_le

/-- Every mini-frame is classified as the first one. -/
theorem isProbe_mfLen_mul_add (s : State) (m j : Nat) : s.isProbe (s.mfLen * m + j) = s.isProbe j := by
  rw [State.isProbe, State.isProbe, Nat.mul_add_mod]

/-- The first mini-frame is D DATA positions and then P PROBE positions. -/
theorem count_isProbe_mfLen (s : State) : Nat.count (fun pos => s.isProbe pos = true) s.mfLen = s.probeRun := by
  have hdata : Nat.count (fun pos => s.isProbe pos = true) s.dataRun = 0 := by
    refine Nat.count_iff_forall_not.2 fun pos hpos => Bool.eq_false_iff.1 ((isProbe_eq_false_iff s pos).2 ?_)
    exact (Nat.mod_le pos _).trans_lt hpos
  have hprobe : Nat.count (fun j => s.isProbe (s.dataRun + j) = true) s.probeRun = s.probeRun := by
    refine Nat.count_iff_forall.2 fun j hj => (isProbe_eq_true_iff s _).2 ?_
    rw [State.mfLen, Nat.mod_eq_of_lt (Nat.add_lt_add_left hj _)]
    exact Nat.le_add_right _ _
  rw [State.mfLen, Nat.count_add, hdata, hprobe, Nat.zero_add]

theorem count_isProbe_miniFrames (s : State) (m : Nat) :
    Nat.count (fun pos => s.isProbe pos = true) (s.mfLen * m) = s.probeRun * m := by
  induction m with
  | zero => exact Nat.count_zero _
  | succ m ih =>
    simp only [Nat.mul_succ, Nat.count_add, ih, isProbe_mfLen_mul_add, count_isProbe_mfLen]

/-- Settles O27: the mini-frames' PROBE positions, and the DATA positions as the rest of the superframe. -/
theorem superframeCounts : Obligations.SuperframeCounts := by
  intro s
  have hprobe : (List.range s.sfLen).countP (fun pos => s.isProbe pos) = s.probeRun * s.mfPerSf := by
    rw [← count_isProbe_miniFrames, Nat.count, State.sfLen]
    simp only [Bool.decide_eq_true]
  have hlength : s.sfLen = s.dataRun * s.mfPerSf + s.probeRun * s.mfPerSf := Nat.add_mul ..
  have hsplit : s.sfLen = s.probeRun * s.mfPerSf + (List.range s.sfLen).countP (fun pos => !s.isProbe pos) := by
    simpa [hprobe] using (List.range s.sfLen).length_eq_countP_add_countP (fun pos => s.isProbe pos)
  rw [← List.countP_eq_length_filter, ← List.countP_eq_length_filter]
  exact ⟨hprobe, by omega⟩

/-! ### LAYOUT_CLASS (R203) -/

theorem decode_layoutClass {pos : Nat} (hpos : pos < 65536) :
    decode (BitVec.ofNat 32 (0x28000000 + pos)) = .ok (.layoutClass pos) := by
  rw [BitVec.ofNat_add]
  exact decode_matchBits_add (row := ⟨0x28, 0x28000000, 0xFFFF0000⟩) (i := .layoutClass pos) (by decide) rfl
    (imm16Fits_iff.2 hpos)

theorem exec_layoutClass_of_le {s : State} {pos : Nat} (h : s.sfLen ≤ pos) :
    exec (.layoutClass pos) s = .next (s.recordError .argRange) := if_pos h

theorem exec_layoutClass_of_data {s : State} {pos : Nat} (h : pos < s.sfLen) (hdata : s.isProbe pos = false) :
    exec (.layoutClass pos) s = .next (s.setResult 0 0 0 0) :=
  (if_neg (not_le.2 h)).trans (if_neg (Bool.eq_false_iff.1 hdata))

theorem exec_layoutClass_of_probe {s : State} {pos : Nat} (h : pos < s.sfLen) (hprobe : s.isProbe pos = true) :
    exec (.layoutClass pos) s = .next (s.setResult 0 (scrS pos % s.order) (scrS pos) 1) :=
  (if_neg (not_le.2 h)).trans (if_pos hprobe)

/-- RESULT of a probe: its position on the circle and its tribit each fit their field (R44). -/
theorem resultWord_of_probe (s : State) (pos : Nat) :
    resultWord 0 (scrS pos % s.order) (scrS pos) 1 =
      BitVec.ofNat 32 (16 * (scrS pos % s.order) + 256 * scrS pos + 4096) := by
  rw [resultWord_eq_sum _ _ _ _ (by decide) ((mod_order_lt s _).trans_le (order_le_eight s)) (scrS_lt pos) (by decide),
    Nat.zero_add]

/-- Settles O26, by the three answers of LAYOUT_CLASS. -/
theorem layoutClassResult : Obligations.LayoutClassResult := by
  intro pos s hpos
  refine ⟨decode_layoutClass (Nat.lt_succ_iff.2 hpos), exec_layoutClass_of_le, fun hlt hdata => ?_,
    fun hlt hprobe => ?_⟩
  · exact exec_layoutClass_of_data hlt ((isProbe_eq_false_iff s pos).2 hdata)
  · rw [exec_layoutClass_of_probe hlt ((isProbe_eq_true_iff s pos).2 hprobe), State.setResult, resultWord_of_probe,
      Machine.scrS_mod]

/-! ### The correlator's template (R205) -/

/-- Bit 12 of RESULT is CLASS (R44). -/
theorem bit_resultWord_class (t i st c : Nat) : bit (resultWord t i st c) 12 = decide (c % 2 = 1) := by
  have hbit : (resultWord t i st c).toNat / 2 ^ 12 % 2 = c % 2 := by
    rw [resultWord_toNat]
    omega
  rw [bit, hbit]

/-- The second field of RESULT is INDEX (R44). -/
theorem bits_resultWord_index {i : Nat} (hi : i < 8) (t st c : Nat) : bits (resultWord t i st c) 6 4 = i := by
  rw [bits, resultWord_toNat]
  omega

/-- Settles O28, by the class of the slot's position. -/
theorem templateAgreesWithLayout : Obligations.TemplateAgreesWithLayout := by
  intro s k pos hsf hpos
  have hlt : pos < s.sfLen := hpos ▸ Nat.mod_lt _ hsf
  have hslot := templateSlot_eq s k
  rw [← hpos] at hslot
  cases hclass : s.isProbe pos with
  | false =>
    have hgap : s.templateSlot k = none := hslot.trans (if_neg (Bool.eq_false_iff.1 hclass))
    refine ⟨_, exec_layoutClass_of_data hlt hclass, ?_, fun e he => ?_⟩
    · rw [hgap, State.setResult_result, bit_resultWord_class]
      rfl
    · cases hgap.symm.trans he
  | true =>
    have hentry : s.templateSlot k = some ⟨k, constellation s.order (scrS pos % s.order)⟩ :=
      hslot.trans (if_pos hclass)
    refine ⟨_, exec_layoutClass_of_probe hlt hclass, ?_, fun e he => ?_⟩
    · rw [hentry, State.setResult_result, bit_resultWord_class]
      rfl
    · obtain rfl := Option.some.inj (hentry.symm.trans he)
      rw [State.setResult_result, bits_resultWord_index ((mod_order_lt s _).trans_le (order_le_eight s))]
      exact ⟨rfl, rfl⟩

end Sys2Proof.LayoutLaws
end

section
/-! # Bounds that f32 arithmetic keeps (00_scope.md R14, 43_synchronizer.md R239)

Rounding is monotone: a real between two f32 rounds to one between them (`RoundedTo.between`). So a bound of the form
n · 2^j, itself an f32 for n up to 2^24, passes through sums, differences and products as it does for real numbers. -/

namespace Sys2Proof.FloatLaws

open Sys2Proof Sys2Proof.Machine Sys2Proof.Safety Sys2Proof.Rounding

/-! ### Sign changes -/

@[simp] theorem magBits_fneg (a : F32) : magBits (fneg a) = magBits a := by
  have hsign : (0x80000000 : F32).toNat % 2 ^ 31 = 0 := by decide
  rw [magBits, fneg, BitVec.toNat_xor, Nat.xor_mod_two_pow, hsign, Nat.xor_zero, magBits]

@[simp] theorem signBit_fneg (a : F32) : signBit (fneg a) = !signBit a := by
  rw [← negative_eq_signBit, ← negative_eq_signBit, negative, fneg, BitVec.getLsbD_xor, negative]
  exact Bool.xor_true _

@[simp] theorem magBits_fabs (a : F32) : magBits (fabs a) = magBits a := by
  have hmask : (0x7FFFFFFF : F32).toNat = 2 ^ 31 - 1 := by decide
  rw [magBits, fabs, BitVec.toNat_and, hmask, Nat.and_two_pow_sub_one_eq_mod, Nat.mod_mod, magBits]

@[simp] theorem signBit_fabs (a : F32) : signBit (fabs a) = false := by
  rw [← negative_eq_signBit, negative, fabs, BitVec.getLsbD_and]
  exact Bool.and_false _

@[simp] theorem isFinite_fneg (a : F32) : isFinite (fneg a) = isFinite a := by rw [isFinite, magBits_fneg, isFinite]

@[simp] theorem isFinite_fabs (a : F32) : isFinite (fabs a) = isFinite a := by rw [isFinite, magBits_fabs, isFinite]

@[simp] theorem isNaN_fabs (a : F32) : isNaN (fabs a) = isNaN a := by rw [isNaN, magBits_fabs, isNaN]

@[simp] theorem isNaN_fneg (a : F32) : isNaN (fneg a) = isNaN a := by rw [isNaN, magBits_fneg, isNaN]

theorem orderKey_fabs (a : F32) : orderKey (fabs a) = |orderKey a| := by
  rw [orderKey, orderKey, signBit_fabs, magBits_fabs]
  cases signBit a <;> simp

theorem orderKey_fneg (a : F32) : orderKey (fneg a) = -orderKey a := by
  rw [orderKey, orderKey, signBit_fneg, magBits_fneg]
  cases signBit a <;> simp

theorem value_fneg (a : F32) : value (fneg a) = -value a := by
  rw [value_eq_signed, value_eq_signed, scaled_eq_scaledMag, scaled_eq_scaledMag, signBit_fneg, magBits_fneg]
  cases signBit a <;> simp [signed, neg_div]

theorem value_fabs (a : F32) : value (fabs a) = |value a| := by
  rw [value_eq_signed, value_eq_signed, scaled_eq_scaledMag, scaled_eq_scaledMag, signBit_fabs, magBits_fabs, abs_div,
    abs_signed, abs_of_nonneg (Nat.cast_nonneg _), abs_of_pos (by positivity)]
  rfl

/-! ### Comparisons with a finite bound -/

/-- What compares with a finite number in magnitude is finite. -/
theorem isFinite_of_orderKey_fabs_le {a c : F32} (hc : isFinite c = true) (h : orderKey (fabs a) ≤ orderKey c) :
    isFinite a = true := by
  have habs : orderKey (fabs a) = magBits a := by rw [orderKey, signBit_fabs, magBits_fabs]; rfl
  have hlt := (orderKey_lt_infMag hc).2
  exact (isFinite_iff a).2 (by omega)

theorem fle_fabs_iff {a c : F32} (hc : isFinite c = true) :
    fle (fabs a) c = true ↔ isFinite a = true ∧ |value a| ≤ value c := by
  rw [← value_fabs]
  refine ⟨fun h => ?_, fun ⟨ha, h⟩ => (fle_iff_value (isFinite_fabs a ▸ ha) hc).2 h⟩
  have ha := isFinite_of_orderKey_fabs_le hc ((fle_iff _ _).1 h).2.2
  exact ⟨ha, (fle_iff_value (isFinite_fabs a ▸ ha) hc).1 h⟩

theorem flt_fabs_iff {a c : F32} (hc : isFinite c = true) :
    flt (fabs a) c = true ↔ isFinite a = true ∧ |value a| < value c := by
  rw [← value_fabs]
  refine ⟨fun h => ?_, fun ⟨ha, h⟩ => (flt_iff_value (isFinite_fabs a ▸ ha) hc).2 h⟩
  have ha := isFinite_of_orderKey_fabs_le hc ((flt_iff _ _).1 h).2.2.le
  exact ⟨ha, (flt_iff_value (isFinite_fabs a ▸ ha) hc).1 h⟩

theorem fge_iff_value {a b : F32} (ha : isFinite a = true) (hb : isFinite b = true) :
    fge a b = true ↔ value b ≤ value a := fle_iff_value hb ha

/-- Off the zeros, a value has one pattern. -/
theorem eq_of_value_eq {a b : F32} (h : value a = value b) (hb : magBits b ≠ 0) : a = b := by
  have hkey := (value_eq_iff a b).1 h
  rw [← withSign_signBit_magBits a, ← withSign_signBit_magBits b]
  unfold orderKey at hkey
  cases ha : signBit a <;> cases hs : signBit b <;> simp only [ha, hs, if_true, Bool.false_eq_true, if_false] at hkey
  · rw [show magBits a = magBits b by omega]
  · omega
  · omega
  · rw [show magBits a = magBits b by omega]

/-! ### Rounding is monotone -/

theorem abs_value_lt_overflowAt {c : F32} (hc : isFinite c = true) : |value c| < overflowAt := by
  have hle : scaledMag (magBits c) ≤ scaledMag (infMag - 1) :=
    scaledMag_strictMono.monotone (Nat.le_sub_one_of_lt ((isFinite_iff c).1 hc))
  rw [value_eq_signed, abs_div, abs_signed, abs_of_nonneg (Nat.cast_nonneg _), abs_of_pos (by positivity),
    div_lt_iff₀ (by positivity), scaled_eq_scaledMag]
  exact (Nat.cast_le.2 hle).trans_lt largestFinite_lt_overflow

/-- A real between two f32 stays between them. -/
theorem RoundedTo.between {x : ℝ} {r b c : F32} (h : RoundedTo x r) (hb : isFinite b = true) (hc : isFinite c = true)
    (hbx : value b ≤ x) (hxc : x ≤ value c) : isFinite r = true ∧ value b ≤ value r ∧ value r ≤ value c := by
  have hbover := (abs_lt.1 (abs_value_lt_overflowAt hb)).1
  have hcover := (abs_lt.1 (abs_value_lt_overflowAt hc)).2
  have hx : |x| < overflowAt := abs_lt.2 ⟨hbover.trans_le hbx, hxc.trans_lt hcover⟩
  have hnearb := h.nearest hx b hb
  have hnearc := h.nearest hx c hc
  rw [abs_of_nonpos (sub_nonpos.2 hbx)] at hnearb
  rw [abs_of_nonneg (sub_nonneg.2 hxc)] at hnearc
  exact ⟨h.finite_inside hx, by linarith [neg_le_abs (value r - x)], by linarith [le_abs_self (value r - x)]⟩

/-- A real within ±c stays within ±c. -/
theorem RoundedTo.abs_le_value {x : ℝ} {r c : F32} (h : RoundedTo x r) (hc : isFinite c = true)
    (hle : |x| ≤ value c) : isFinite r = true ∧ |value r| ≤ value c := by
  obtain ⟨hlow, hhigh⟩ := abs_le.1 hle
  rw [← value_fneg] at hlow
  obtain ⟨hfin, hlow, hhigh⟩ := RoundedTo.between h ((isFinite_fneg c).trans hc) hc hlow hhigh
  exact ⟨hfin, abs_le.2 ⟨value_fneg c ▸ hlow, hhigh⟩⟩

/-- A real that is an f32 rounds to it. -/
theorem RoundedTo.value_eq {x : ℝ} {r c : F32} (h : RoundedTo x r) (hc : isFinite c = true) (hx : value c = x) :
    isFinite r = true ∧ value r = x := by
  obtain ⟨hfin, hlow, hhigh⟩ := RoundedTo.between h hc hc hx.le hx.ge
  exact ⟨hfin, (le_antisymm hhigh hlow).trans hx⟩

/-- Rounding gives a number. -/
theorem RoundedTo.isNaN_eq_false {x : ℝ} {r : F32} (h : RoundedTo x r) : isNaN r = false := by
  rcases lt_or_ge |x| overflowAt with hx | hx
  · exact isFinite_not_nan r (h.finite_inside hx)
  · rcases le_abs'.1 hx with hx | hx
    · exact (h.infinite_below hx).symm ▸ isNaN_infinityOf true
    · exact (h.infinite_above hx).symm ▸ isNaN_infinityOf false

/-! ### Bounds n · 2^j -/

/-- a is finite and at most n · 2^j in magnitude. -/
structure Within (n j : Nat) (a : F32) : Prop where
  finite : isFinite a = true
  abs_le : |value a| ≤ n * 2 ^ j

/-- An integer of at most 24 bits, shifted, is an f32. -/
theorem exists_value_eq {n j : Nat} (hn : n ≤ 2 ^ 24) (hj : j ≤ 103) :
    ∃ c, isFinite c = true ∧ value c = n * 2 ^ j := by
  obtain ⟨m, hm⟩ := exists_scaledMag_eq (149 + j) n hn
  have hlt : m < infMag := by
    rw [← scaledMag_strictMono.lt_iff_lt, hm, scaledMag_infMag]
    exact Nat.mul_lt_mul_of_le_of_lt hn (Nat.pow_lt_pow_right (by norm_num) (by omega)) (by positivity)
  have hm31 := hlt.trans infMag_lt
  refine ⟨withSign false m, (isFinite_iff _).2 ((magBits_withSign _ _ hm31).trans_lt hlt), ?_⟩
  rw [value_withSign _ _ hm31, hm, signed, if_neg Bool.false_ne_true, pow_add, div_eq_iff (by positivity)]
  push_cast
  ring

theorem Within.of_roundedTo {x : ℝ} {r : F32} {n j : Nat} (h : RoundedTo x r) (hx : |x| ≤ n * 2 ^ j)
    (hn : n ≤ 2 ^ 24) (hj : j ≤ 103) : Within n j r := by
  obtain ⟨c, hc, hval⟩ := exists_value_eq hn hj
  rw [← hval] at hx
  obtain ⟨hfin, hle⟩ := RoundedTo.abs_le_value h hc hx
  exact ⟨hfin, hval ▸ hle⟩

theorem within_iff_fle {n j : Nat} {a c : F32} (hc : isFinite c = true) (hval : value c = n * 2 ^ j) :
    Within n j a ↔ fle (fabs a) c = true := by
  rw [fle_fabs_iff hc, hval]
  exact ⟨fun h => ⟨h.finite, h.abs_le⟩, fun h => ⟨h.1, h.2⟩⟩

section Within

variable {m n j k : Nat} {a b : F32}

theorem Within.fadd (ha : Within m j a) (hb : Within n j b) (hn : m + n ≤ 2 ^ 24 := by norm_num)
    (hj : j ≤ 103 := by norm_num) : Within (m + n) j (fadd a b) := by
  refine .of_roundedTo (roundedTo_fadd ha.finite hb.finite) ((abs_add_le _ _).trans ?_) hn hj
  push_cast
  linarith [ha.abs_le, hb.abs_le]

theorem Within.fsub (ha : Within m j a) (hb : Within n j b) (hn : m + n ≤ 2 ^ 24 := by norm_num)
    (hj : j ≤ 103 := by norm_num) : Within (m + n) j (fsub a b) := by
  refine .of_roundedTo (roundedTo_fsub ha.finite hb.finite) ((abs_sub _ _).trans ?_) hn hj
  push_cast
  linarith [ha.abs_le, hb.abs_le]

theorem Within.fmul (ha : Within m j a) (hb : Within n k b) (hn : m * n ≤ 2 ^ 24 := by norm_num)
    (hj : j + k ≤ 103 := by norm_num) : Within (m * n) (j + k) (fmul a b) := by
  refine .of_roundedTo (roundedTo_fmul ha.finite hb.finite) ?_ hn hj
  calc |value a * value b| = |value a| * |value b| := abs_mul _ _
    _ ≤ (m * 2 ^ j) * (n * 2 ^ k) := mul_le_mul ha.abs_le hb.abs_le (abs_nonneg _) (by positivity)
    _ = (m * n : Nat) * 2 ^ (j + k) := by push_cast; ring

end Within

end Sys2Proof.FloatLaws
end

section
/-! # The strobe timing, the interpolator and the timing error within their bounds (43_synchronizer.md R231 to R239)

The bounds of R239 in the order the rules compute: the strobe step from W and v, μ and η in [0,1), the strobe value from
valid samples, and the timing error from strobe values. -/

namespace Sys2Proof.TimingLaws

open Sys2Proof Sys2Proof.Machine Sys2Proof.Safety Sys2Proof.FloatLaws Sys2Proof.Rounding

/-! ### Constants -/

/-- The value of a constant from its integer in units of 2^-149. -/
theorem value_of_scaledInt {a : F32} {x : ℝ} (n : Int) (h : scaledInt a = n) (hx : (n : ℝ) = x * 2 ^ 149) :
    value a = x := by
  rw [value_eq_scaledInt, h, hx, mul_div_cancel_right₀ _ (by positivity)]

theorem value_zero : value 0 = 0 := (value_eq_zero_iff 0).2 rfl

theorem value_fhalf : value fhalf = 1 / 2 := value_of_scaledInt (2 ^ 148) (by decide +kernel) (by norm_num)

theorem value_fone : value fone = 1 := value_of_scaledInt (2 ^ 149) (by decide +kernel) (by norm_num)

theorem value_fonehalf : value fonehalf = 3 / 2 :=
  value_of_scaledInt (3 * 2 ^ 148) (by decide +kernel) (by norm_num)

theorem value_ftwo : value ftwo = 2 := value_of_scaledInt (2 ^ 150) (by decide +kernel) (by norm_num)

theorem value_fbelowOne : value fbelowOne = 1 - 1 / 2 ^ 24 :=
  value_of_scaledInt (2 ^ 149 - 2 ^ 125) (by decide +kernel) (by norm_num)

theorem value_sampleMax : value sampleMax = 65536 :=
  value_of_scaledInt (2 ^ 165) (by decide +kernel) (by norm_num)

/-- 6 × 65536, the bound of the strobe values (R239). -/
theorem value_strobeMax : value 0x48C00000 = 393216 :=
  value_of_scaledInt (6 * 2 ^ 165) (by decide +kernel) (by norm_num)

/-- The bound of the timing error (R239). -/
theorem value_errorMax : value 0x53800000 = 2 ^ 40 :=
  value_of_scaledInt (2 ^ 189) (by decide +kernel) (by norm_num)

/-- 1/32, W for the greatest SPS (R231). -/
theorem value_leastW : value 0x3D000000 = 1 / 32 :=
  value_of_scaledInt (2 ^ 144) (by decide +kernel) (by norm_num)

/-! ### The strobe step (R231, R236) -/

/-- Half of a normal number of exponent 2 or above is an f32: the shift is one less. -/
theorem exists_value_eq_half {a : F32} (ha : isFinite a = true) (hnormal : 2 ^ 24 ≤ magBits a) :
    ∃ c, isFinite c = true ∧ value c = value a / 2 := by
  obtain ⟨k, q, hm, hq, hk⟩ := exists_packed (magBits a)
  obtain ⟨k, rfl⟩ : ∃ l, k = l + 1 := ⟨k - 1, by omega⟩
  have hscaled : scaled a = q * 2 ^ (k + 1) := by
    rw [scaled_eq_scaledMag, hm, scaledMag_packed _ q hq.le hk]
  obtain ⟨m, hhalf⟩ := exists_scaledMag_eq k q hq.le
  have hle : m ≤ magBits a := by
    rw [← scaledMag_strictMono.le_iff_le, hhalf, ← scaled_eq_scaledMag, hscaled, pow_succ]
    exact Nat.mul_le_mul_left q (by omega)
  have hlt : m < infMag := hle.trans_lt ((isFinite_iff a).1 ha)
  have hbits : m < 2 ^ 31 := hlt.trans infMag_lt
  refine ⟨withSign (signBit a) m, (isFinite_iff _).2 ((magBits_withSign _ _ hbits).trans_lt hlt), ?_⟩
  rw [value_withSign _ _ hbits, value_eq_signed, hscaled, hhalf, pow_succ]
  unfold signed
  push_cast
  split <;> ring

/-- Such a number halves exactly. -/
theorem value_fmul_fhalf {a : F32} (ha : isFinite a = true) (hnormal : 2 ^ 24 ≤ magBits a) :
    isFinite (fmul fhalf a) = true ∧ value (fmul fhalf a) = value a / 2 := by
  obtain ⟨c, hc, hval⟩ := exists_value_eq_half ha hnormal
  have hround := roundedTo_fmul (a := fhalf) (by decide) ha
  rw [value_fhalf, one_div_mul_eq_div] at hround
  exact RoundedTo.value_eq hround hc hval

/-- W is finite and between 1/32 and 1/2, as it is for SPS from 64 to 4 (R231). -/
structure LegalW (w : F32) : Prop where
  finite : isFinite w = true
  low : 1 / 32 ≤ value w
  high : value w ≤ 1 / 2

theorem legalW_of_configLegal {s : State} (h : ConfigLegal s) : LegalW s.sync.w := by
  obtain ⟨hlow, hhigh⟩ := h.sps_range
  obtain ⟨hfin, hval⟩ := value_fofNat (n := s.sps) (by omega)
  have hlow' : (4 : ℝ) ≤ s.sps := mod_cast hlow
  have hhigh' : (s.sps : ℝ) ≤ 64 := mod_cast hhigh
  have hnz : magBits (fofNat s.sps) ≠ 0 := by
    rw [Ne, ← value_eq_zero_iff, hval]
    linarith
  have hround := roundedTo_fdiv (a := ftwo) (by decide) hfin hnz
  rw [← h.w_matches, value_ftwo, hval] at hround
  have hge : (1 : ℝ) / 32 ≤ 2 / s.sps := by rw [div_le_div_iff₀ (by norm_num) (by linarith)]; linarith
  have hle : (2 : ℝ) / s.sps ≤ 1 / 2 := by rw [div_le_div_iff₀ (by linarith) (by norm_num)]; linarith
  rw [← value_leastW] at hge
  rw [← value_fhalf] at hle
  obtain ⟨hw, hlow, hhigh⟩ := RoundedTo.between hround (by decide) (by decide) hge hle
  exact ⟨hw, value_leastW ▸ hlow, value_fhalf ▸ hhigh⟩

/-- The clamp limit W/2 is exact (R236). -/
theorem LegalW.half {w : F32} (h : LegalW w) :
    isFinite (fmul fhalf w) = true ∧ value (fmul fhalf w) = value w / 2 := by
  refine value_fmul_fhalf h.finite ?_
  have hkey : orderKey 0x3D000000 ≤ orderKey w := by
    rw [← value_le_iff, value_leastW]
    exact h.low
  have hleast : orderKey 0x3D000000 = 0x3D000000 := by decide
  rw [hleast] at hkey
  unfold orderKey at hkey
  split at hkey <;> omega

/-- The loop output within ±W/2 leaves the strobe step positive and at most 1 (R231, R239). -/
theorem LegalW.step {w v : F32} (h : LegalW w) (hv : fle (fabs v) (fmul fhalf w) = true) :
    isFinite (fadd w v) = true ∧ 0 < value (fadd w v) ∧ value (fadd w v) ≤ 1 := by
  obtain ⟨hhalf, hval⟩ := h.half
  obtain ⟨hvfin, hvabs⟩ := (fle_fabs_iff hhalf).1 hv
  obtain ⟨hvlow, hvhigh⟩ := abs_le.1 hvabs
  have hlow := h.low
  have hhigh := h.high
  obtain ⟨hfin, hge, hle⟩ := RoundedTo.between (roundedTo_fadd h.finite hvfin) hhalf (c := fone) (by decide)
    (by linarith) (by rw [value_fone]; linarith)
  exact ⟨hfin, by linarith, value_fone ▸ hle⟩

/-! ### μ and η in [0,1) (R231, R232) -/

/-- Finite and in [0,1). -/
structure InUnit (a : F32) : Prop where
  finite : isFinite a = true
  nonneg : 0 ≤ value a
  lt_one : value a < 1

theorem inUnit_iff (a : F32) : InUnit a ↔ isFinite a = true ∧ fge a fzero = true ∧ flt a fone = true := by
  have hz : value fzero = 0 := value_zero
  constructor
  · intro h
    rw [fge_iff_value h.finite (by decide), flt_iff_value h.finite (by decide), hz, value_fone]
    exact ⟨h.finite, h.nonneg, h.lt_one⟩
  · rintro ⟨hfin, hge, hlt⟩
    rw [fge_iff_value hfin (by decide), hz] at hge
    rw [flt_iff_value hfin (by decide), value_fone] at hlt
    exact ⟨hfin, hge, hlt⟩

theorem InUnit.within {a : F32} (h : InUnit a) : Within 1 0 a := by
  refine ⟨h.finite, ?_⟩
  rw [abs_of_nonneg h.nonneg]
  simpa using h.lt_one.le

/-- A real in [0,1] rounds into [0,1], and the clamp takes 1 out (R232). -/
theorem inUnit_clampBelowOne {x : ℝ} {a : F32} (h : RoundedTo x a) (hlow : 0 ≤ x) (hhigh : x ≤ 1) :
    InUnit (clampBelowOne a) := by
  obtain ⟨hfin, hge, -⟩ := RoundedTo.between h (b := 0) (c := fone) (by decide) (by decide)
    (value_zero.trans_le hlow) (hhigh.trans_eq value_fone.symm)
  unfold clampBelowOne
  split
  · exact ⟨by decide, by rw [value_fbelowOne]; norm_num, by rw [value_fbelowOne]; norm_num⟩
  · rename_i hclamp
    rw [fge_iff_value hfin (by decide), value_fone, not_le] at hclamp
    exact ⟨hfin, value_zero.ge.trans hge, hclamp⟩

section Strobe

variable {nco step : F32} (hnco : InUnit nco) (hfin : isFinite step = true)
include hnco hfin

/-- At a strobe the quotient η/step is in [0,1) before rounding. -/
theorem inUnit_strobeMu (hpos : 0 < value step) (hlt : flt nco step = true) : InUnit (strobeMu nco step) := by
  rw [flt_iff_value hnco.finite hfin] at hlt
  have hnz : magBits step ≠ 0 := (value_eq_zero_iff step).not.1 hpos.ne'
  exact inUnit_clampBelowOne (roundedTo_fdiv hnco.finite hfin hnz) (div_nonneg hnco.nonneg hpos.le)
    ((div_le_one hpos).2 hlt.le)

/-- At a strobe the wrapped η - step + 1 is in [0,1) before rounding. -/
theorem inUnit_strobeNco (hone : value step ≤ 1) (hlt : flt nco step = true) : InUnit (strobeNco nco step) := by
  rw [flt_iff_value hnco.finite hfin] at hlt
  have hnonneg := hnco.nonneg
  obtain ⟨hdiff, hlow, hhigh⟩ := RoundedTo.between (roundedTo_fsub hnco.finite hfin) (b := fneg fone) (c := 0)
    (by decide) (by decide) (by rw [value_fneg, value_fone]; linarith) (by rw [value_zero]; linarith)
  rw [value_fneg, value_fone] at hlow
  rw [value_zero] at hhigh
  refine inUnit_clampBelowOne (roundedTo_fadd hdiff (by decide)) ?_ ?_ <;> rw [value_fone] <;> linarith

/-- Without a strobe η - step lies between 0 and η. -/
theorem inUnit_decrement (hpos : 0 < value step) (hge : flt nco step = false) : InUnit (fsub nco step) := by
  rw [Bool.eq_false_iff, Ne, flt_iff_value hnco.finite hfin, not_lt] at hge
  obtain ⟨hdiff, hlow, hhigh⟩ := RoundedTo.between (roundedTo_fsub hnco.finite hfin) (b := 0) (c := nco) (by decide)
    hnco.finite (by rw [value_zero]; linarith) (by linarith)
  exact ⟨hdiff, value_zero.ge.trans hlow, hhigh.trans_lt hnco.lt_one⟩

end Strobe

/-! ### The interpolator (R233)

The bounds are counted in units of 2^15, half of SAMPLE_MAX, since the interpolator halves samples. -/

theorem fmul_comm_of_finite {a b : F32} (ha : isFinite a = true) (hb : isFinite b = true) : fmul a b = fmul b a := by
  rw [fmul_of_finite ha hb, fmul_of_finite hb ha, bne_comm, Nat.mul_comm]

/-- A multiplication by p/2 takes 2n units to p · n. -/
theorem within_fmul_halves {p n j : Nat} {a c : F32} (h : Within (2 * n) j a) (hc : isFinite c = true)
    (hval : value c = p / 2) (hn : p * n ≤ 2 ^ 24 := by norm_num) (hj : j ≤ 103 := by norm_num) :
    Within (p * n) j (fmul a c) := by
  refine .of_roundedTo (roundedTo_fmul h.finite hc) ?_ hn hj
  have habs := h.abs_le
  push_cast at habs ⊢
  have hp : (0 : ℝ) ≤ p / 2 := by positivity
  calc |value a * value c| = |value a| * (p / 2) := by rw [hval, abs_mul, abs_of_nonneg hp]
    _ ≤ 2 * n * 2 ^ j * (p / 2) := mul_le_mul_of_nonneg_right habs hp
    _ = p * n * 2 ^ j := by ring

theorem within_of_validComponent {a : F32} (h : validComponent a = true) : Within 2 15 a := by
  rw [validComponent, Bool.and_eq_true] at h
  exact (within_iff_fle (by decide) (value_sampleMax.trans (by norm_num))).2 h.2

section Interpolator

variable {h0 h1 h2 h3 mu : F32} (w0 : Within 2 15 h0) (w1 : Within 2 15 h1) (w2 : Within 2 15 h2) (w3 : Within 2 15 h3)
include w0 w1 w2 w3

/-- The second-order coefficient is at most 2 × 65536. -/
theorem within_interp_v2 : Within 4 15 (fmul fhalf (fadd (fsub (fsub h0 h1) h2) h3)) := by
  have hsum : Within 8 15 (fadd (fsub (fsub h0 h1) h2) h3) := ((w0.fsub w1).fsub w2).fadd w3
  rw [fmul_comm_of_finite (by decide) hsum.finite]
  exact within_fmul_halves (p := 1) (n := 4) hsum (by decide) (mod_cast value_fhalf)

/-- The first-order coefficient is at most 3 × 65536. -/
theorem within_interp_v1 : Within 6 15
    (fsub (fsub (fsub (fmul h1 fonehalf) (fmul h0 fhalf)) (fmul h2 fhalf)) (fmul h3 fhalf)) := by
  have honehalf : Within 3 15 (fmul h1 fonehalf) :=
    within_fmul_halves (p := 3) (n := 1) w1 (by decide) (mod_cast value_fonehalf)
  have hhalf {h : F32} (w : Within 2 15 h) : Within 1 15 (fmul h fhalf) :=
    within_fmul_halves (p := 1) (n := 1) w (by decide) (mod_cast value_fhalf)
  exact ((honehalf.fsub (hhalf w0)).fsub (hhalf w2)).fsub (hhalf w3)

/-- The strobe value of one component is at most 6 × 65536 (R239). -/
theorem within_interpComponent (hmu : Within 1 0 mu) : Within 12 15 (interpComponent h0 h1 h2 h3 mu) :=
  ((((within_interp_v2 w0 w1 w2 w3).fmul hmu).fadd (within_interp_v1 w0 w1 w2 w3)).fmul hmu).fadd w2

end Interpolator

theorem strobeBounded_iff (z : Cplx) : strobeBounded z = true ↔ Within 12 15 z.i ∧ Within 12 15 z.q := by
  have hval : value 0x48C00000 = (12 : Nat) * 2 ^ 15 := value_strobeMax.trans (by norm_num)
  rw [strobeBounded, Bool.and_eq_true, within_iff_fle (by decide) hval, within_iff_fle (by decide) hval]

/-- All samples of the history are valid (R229). -/
def ValidHistory (h : History) : Prop :=
  validSample h.h0 = true ∧ validSample h.h1 = true ∧ validSample h.h2 = true ∧ validSample h.h3 = true

theorem strobeBounded_interp {h : History} {mu : F32} (hh : ValidHistory h) (hmu : Within 1 0 mu) :
    strobeBounded (interp h mu) = true := by
  simp only [ValidHistory, validSample, Bool.and_eq_true] at hh
  obtain ⟨⟨i0, q0⟩, ⟨i1, q1⟩, ⟨i2, q2⟩, ⟨i3, q3⟩⟩ := hh
  exact (strobeBounded_iff _).2
    ⟨within_interpComponent (within_of_validComponent i0) (within_of_validComponent i1) (within_of_validComponent i2)
      (within_of_validComponent i3) hmu,
    within_interpComponent (within_of_validComponent q0) (within_of_validComponent q1) (within_of_validComponent q2)
      (within_of_validComponent q3) hmu⟩

/-! ### The timing error (R235) -/

/-- Strobe values of 12 units give errors of 2 · 12 · 24 square units, below 2^40. -/
theorem flt_timingError {st : Synchronizer} {y : Cplx} (hymid : strobeBounded st.ymid = true)
    (hyprev : strobeBounded st.yprev = true) (hy : strobeBounded y = true) :
    flt (fabs (timingError st y)) 0x53800000 = true := by
  rw [strobeBounded_iff] at hymid hyprev hy
  have herr : Within 576 30 (timingError st y) :=
    (hymid.1.fmul (hy.1.fsub hyprev.1)).fadd (hymid.2.fmul (hy.2.fsub hyprev.2))
  refine (flt_fabs_iff (by decide)).2 ⟨herr.finite, herr.abs_le.trans_lt ?_⟩
  rw [value_errorMax]
  norm_num

end Sys2Proof.TimingLaws
end

section
/-! # Every step keeps the timing loop bounded (43_synchronizer.md R236, R239)

Whatever the loop filter computes is no NaN, so its clamps leave it within ±W/2; with the bounds of the strobe timing,
the strobe values and the timing error, a push keeps `LoopBounded`, and so does every step (O34). -/

namespace Sys2Proof.TimingLaws

open Sys2Proof Sys2Proof.Machine Sys2Proof.Safety Sys2Proof.FloatLaws Sys2Proof.StateLaws

/-! ### The loop filter (R236) -/

/-- A number is finite or an infinity. -/
theorem isFinite_or_eq_infinityOf {a : F32} (h : isNaN a = false) : isFinite a = true ∨ ∃ m, a = infinityOf m := by
  rw [isFinite_iff]
  rw [Bool.eq_false_iff, Ne, isNaN_iff, not_lt] at h
  refine h.lt_or_eq.imp_right fun heq => ⟨signBit a, ?_⟩
  rw [infinityOf_eq_withSign, ← heq, withSign_signBit_magBits]

theorem isNaN_fadd_of_isFinite_left {a b : F32} (ha : isFinite a = true) (hb : isNaN b = false) :
    isNaN (fadd a b) = false := by
  obtain hb | ⟨m, rfl⟩ := isFinite_or_eq_infinityOf hb
  · exact RoundedTo.isNaN_eq_false (roundedTo_fadd ha hb)
  · exact (fadd_infinityOf_right m ha).symm ▸ isNaN_infinityOf m

theorem isNaN_fadd_of_isFinite_right {a b : F32} (ha : isNaN a = false) (hb : isFinite b = true) :
    isNaN (fadd a b) = false := by
  obtain ha | ⟨m, rfl⟩ := isFinite_or_eq_infinityOf ha
  · exact RoundedTo.isNaN_eq_false (roundedTo_fadd ha hb)
  · exact (fadd_infinityOf_left m hb).symm ▸ isNaN_infinityOf m

/-- A clamp leaves every number, the infinities too, within its limit. -/
theorem fle_clampSym {lim x : F32} (hlim : isFinite lim = true) (hnonneg : 0 ≤ value lim) (hx : isNaN x = false) :
    fle (fabs (clampSym lim x).1) lim = true := by
  have hnum := isFinite_not_nan lim hlim
  have hkey : 0 ≤ orderKey lim := by
    rw [← value_zero, value_le_iff] at hnonneg
    exact hnonneg
  rw [fle_iff, isNaN_fabs, orderKey_fabs]
  obtain ⟨habove, hbelow, heq⟩ | heq | heq := clampSym_cases lim x
  · rw [Bool.eq_false_iff, Ne, fgt_iff] at habove
    rw [Bool.eq_false_iff, Ne, flt_iff, isNaN_fneg, orderKey_fneg] at hbelow
    rw [heq]
    refine ⟨hx, hnum, abs_le.2 ⟨?_, ?_⟩⟩
    · exact not_lt.1 fun h => hbelow ⟨hx, hnum, h⟩
    · exact not_lt.1 fun h => habove ⟨hnum, hx, h⟩
  · rw [heq]
    exact ⟨hnum, hnum, (abs_of_nonneg hkey).le⟩
  · rw [heq, isNaN_fneg, orderKey_fneg, abs_neg]
    exact ⟨hnum, hnum, (abs_of_nonneg hkey).le⟩

/-- The integrator after a timing error e (R236). -/
def nextInteg (e : F32) (st : Synchronizer) : F32 × Bool :=
  clampSym (fmul fhalf st.w) (fadd st.integ (fmul st.beta e))

/-- The loop output after a timing error e (R236). -/
def nextOutput (e : F32) (st : Synchronizer) : F32 × Bool :=
  clampSym (fmul fhalf st.w) (fadd (fmul st.alpha e) (nextInteg e st).1)

theorem loopUpdate_eq (e : F32) (st : Synchronizer) :
    loopUpdate e st = ({ st with
      integ := (nextInteg e st).1, v := (nextOutput e st).1
      diverged := st.diverged || ((nextInteg e st).2 || (nextOutput e st).2) },
      (nextInteg e st).2 || (nextOutput e st).2) := by
  unfold loopUpdate nextOutput nextInteg
  rfl

section LoopFilter

variable {e : F32} {st : Synchronizer} (hw : LegalW st.w) (he : isFinite e = true)
include hw he

theorem fle_nextInteg (hbeta : isFinite st.beta = true) (hinteg : isFinite st.integ = true) :
    fle (fabs (nextInteg e st).1) (fmul fhalf st.w) = true := by
  obtain ⟨hlim, hval⟩ := hw.half
  have hprod := RoundedTo.isNaN_eq_false (roundedTo_fmul hbeta he)
  exact fle_clampSym hlim (by linarith [hw.low]) (isNaN_fadd_of_isFinite_left hinteg hprod)

theorem fle_nextOutput (halpha : isFinite st.alpha = true) (hbeta : isFinite st.beta = true)
    (hinteg : isFinite st.integ = true) : fle (fabs (nextOutput e st).1) (fmul fhalf st.w) = true := by
  obtain ⟨hlim, hval⟩ := hw.half
  have hprod := RoundedTo.isNaN_eq_false (roundedTo_fmul halpha he)
  have hnext := ((fle_fabs_iff hlim).1 (fle_nextInteg hw he hbeta hinteg)).1
  exact fle_clampSym hlim (by linarith [hw.low]) (isNaN_fadd_of_isFinite_right hprod hnext)

end LoopFilter

/-! ### A push (R228) -/

/-- The synchronizer with a sample shifted in and no symbol emitted yet (R228, R230). -/
def shifted (y : Synchronizer) (x : Cplx) : Synchronizer := { y with symValid := false, hist := shiftIn y.hist x }

/-- The synchronizer with the μ and η of a strobe (R231). -/
def timed (y : Synchronizer) (step : F32) : Synchronizer :=
  { y with mu := strobeMu y.nco step, nco := strobeNco y.nco step }

/-- A strobe at phase 0 (R234). -/
theorem strobe_of_midpoint {y : Synchronizer} (h : y.phase = false) (step : F32) :
    strobe y step = ⟨midpointStrobe (interp y.hist (strobeMu y.nco step)) (timed y step), false, false⟩ :=
  if_neg (Bool.eq_false_iff.1 h)

/-- A strobe at phase 1 (R235 to R237). -/
theorem strobe_of_ontime {y : Synchronizer} (h : y.phase = true) (step : F32) :
    strobe y step = ontimeStrobe (interp y.hist (strobeMu y.nco step)) (timed y step) := if_pos h

theorem ontimeStrobe_eq (y : Cplx) (st : Synchronizer) :
    ontimeStrobe y st =
      ⟨{ st with
        e := timingError st y, integ := (nextInteg (timingError st y) st).1
        v := (nextOutput (timingError st y) st).1
        diverged := st.diverged || ((nextInteg (timingError st y) st).2 || (nextOutput (timingError st y) st).2)
        yprev := y, phase := false, sym := y, symValid := true, symCount := st.symCount + 1 },
      true, (nextInteg (timingError st y) st).2 || (nextOutput (timingError st y) st).2⟩ := by
  rw [ontimeStrobe, loopUpdate_eq]
  rfl

theorem ontimeStrobe_of_values {y : Cplx} {st : Synchronizer} {e i v : F32} {ci cv : Bool}
    (he : timingError st y = e) (hi : nextInteg e st = (i, ci)) (hv : nextOutput e st = (v, cv)) :
    ontimeStrobe y st =
      ⟨{ st with
        e := e, integ := i, v := v, diverged := st.diverged || (ci || cv)
        yprev := y, phase := false, sym := y, symValid := true, symCount := st.symCount + 1 }, true, ci || cv⟩ := by
  rw [ontimeStrobe_eq, he, hi, hv]

theorem loopBounded_ontimeStrobe {y : Cplx} {st : Synchronizer} (hw : LegalW st.w)
    (hgains : isFinite st.alpha = true ∧ isFinite st.beta = true) (h : LoopBounded st) (hy : strobeBounded y = true) :
    LoopBounded (ontimeStrobe y st).sync := by
  obtain ⟨hymid, hyprev, -⟩ := h.strobes_bound
  obtain ⟨halpha, hbeta⟩ := hgains
  have herr := flt_timingError hymid hyprev hy
  have hefin := ((flt_fabs_iff (by decide)).1 herr).1
  have hinteg := ((fle_fabs_iff hw.half.1).1 h.integ_bound).1
  rw [ontimeStrobe_eq]
  exact { h with
    integ_bound := fle_nextInteg hw hefin hbeta hinteg
    v_bound := fle_nextOutput hw hefin halpha hbeta hinteg
    e_bound := herr
    strobes_bound := ⟨hymid, hy, hy⟩ }

/-- A strobe keeps the loop bounded: its timing by the step, its value by the interpolator, the loop values by the
filter's clamps. -/
theorem loopBounded_strobe {y : Synchronizer} {step : F32} (hw : LegalW y.w)
    (hgains : isFinite y.alpha = true ∧ isFinite y.beta = true) (hhist : ValidHistory y.hist) (h : LoopBounded y)
    (hmu : InUnit (strobeMu y.nco step)) (hnco : InUnit (strobeNco y.nco step)) :
    LoopBounded (strobe y step).sync := by
  have hstrobe := strobeBounded_interp hhist hmu.within
  have htimed : LoopBounded (timed y step) :=
    { h with nco_unit := (inUnit_iff _).1 hnco, mu_unit := (inUnit_iff _).1 hmu }
  cases hphase : y.phase with
  | false =>
    obtain ⟨-, hyprev, hsym⟩ := h.strobes_bound
    rw [strobe_of_midpoint hphase]
    exact { htimed with strobes_bound := ⟨hstrobe, hyprev, hsym⟩ }
  | true =>
    rw [strobe_of_ontime hphase]
    exact loopBounded_ontimeStrobe hw hgains htimed hstrobe

/-- A push of a valid sample fills, strobes, or decrements η, and each keeps the loop bounded. -/
theorem loopBounded_pushSample {y : Synchronizer} {x : Cplx} (hw : LegalW y.w) (hsound : SynchronizerSound y)
    (h : LoopBounded y) (hx : validSample x = true) : LoopBounded (pushSample y x).sync := by
  have hnco := (inUnit_iff y.nco).2 h.nco_unit
  obtain ⟨hfin, hpos, hone⟩ := hw.step h.v_bound
  obtain ⟨h0, h1, h2, -⟩ := hsound.history_valid
  obtain ⟨-, heq⟩ | ⟨-, hlt, heq⟩ | ⟨-, hge, heq⟩ := pushSample_cases y x
  · exact heq ▸ { h with }
  · rw [heq]
    exact loopBounded_strobe hw hsound.gains_finite ⟨hx, h0, h1, h2⟩ { h with }
      (inUnit_strobeMu hnco hfin hpos hlt) (inUnit_strobeNco hnco hfin hone hlt)
  · exact heq ▸ { h with nco_unit := (inUnit_iff _).1 (inUnit_decrement hnco hfin hpos hge) }

/-! ### Every step (R239) -/

/-- A reset loop is bounded, whatever its gains and its legal W (R225). -/
theorem loopBounded_syncReset (y : Synchronizer) (alpha beta : F32) (cfgValid : Bool) {w : F32} (hw : LegalW w) :
    LoopBounded { syncReset y with alpha := alpha, beta := beta, cfgValid := cfgValid, w := w } := by
  obtain ⟨hlim, hval⟩ := hw.half
  have hzero : fle (fabs 0) (fmul fhalf w) = true := by
    refine (fle_fabs_iff hlim).2 ⟨by decide, ?_⟩
    rw [value_zero, abs_zero, hval]
    linarith [hw.low]
  have hunit : isFinite fzero = true ∧ fge fzero fzero = true ∧ flt fzero fone = true := by decide
  have herr : flt (fabs 0) 0x53800000 = true := by decide
  have hstrobe : strobeBounded czero = true := by decide
  exact ⟨hunit, hunit, hzero, hzero, herr, hstrobe, hstrobe, hstrobe⟩

/-- No command leaves the loop's bounds. -/
theorem loopBounded_of_effect {s t : State} {i : Instr} (hcfg : ConfigLegal s) (hs : UnitsSound s)
    (h : LoopBounded s.sync) (heff : Effect s i t) : LoopBounded t.sync := by
  have hw := legalW_of_configLegal hcfg
  cases heff with
  | unitsReset => exact loopBounded_syncReset s.sync _ _ _ hw
  | configured => exact loopBounded_syncReset s.sync _ _ true hw
  | configRejected => exact loopBounded_syncReset s.sync _ _ false hw
  | synchronizerReset => exact loopBounded_syncReset s.sync _ _ _ hw
  | samplePushed hx => exact loopBounded_pushSample hw ((unitsSound_iff s).1 hs).2.1 h hx
  | _ => exact h

/-- A register write leaves the loop or, at a mode change, resets it with the new W (R318). -/
theorem loopBounded_of_writeEffect {s t : State} {r : Reg} {v : Word} (ht : ConfigLegal t)
    (h : LoopBounded s.sync) (heff : WriteEffect s v r t) : LoopBounded t.sync := by
  have hw := legalW_of_configLegal ht
  cases heff with
  | statusCleared => exact { h with }
  | modeTaken => exact loopBounded_syncReset s.sync _ _ _ hw
  | layoutTaken => exact loopBounded_syncReset s.sync _ _ _ hw
  | _ => exact h

theorem loopBounded_keptByEvents :
    KeptByEvents fun s => (ConfigLegal s ∧ UnitsSound s) ∧ LoopBounded s.sync where
  queue s inbox replies n hs := ⟨configLegal_unitsSound_keptByEvents.queue s inbox replies n hs.1, hs.2⟩
  hardReset s := ⟨configLegal_unitsSound_keptByEvents.hardReset s,
    loopBounded_syncReset resetSynchronizer _ _ _ (legalW_of_configLegal configLegal_reset)⟩
  retire s hs := ⟨configLegal_unitsSound_keptByEvents.retire s hs.1, hs.2⟩
  effect s t i hs h :=
    ⟨configLegal_unitsSound_keptByEvents.effect s t i hs.1 h, loopBounded_of_effect hs.1.1 hs.1.2 hs.2 h⟩
  write s t r v hs h :=
    have hunits := configLegal_unitsSound_keptByEvents.write s t r v hs.1 h
    ⟨hunits, loopBounded_of_writeEffect hunits.1 hs.2 h⟩

/-- Settles O34, by the effects of commands and writes; the legal configuration bounds W, and the sound units give
valid samples and finite gains. -/
theorem timingLoopStaysBounded : Obligations.TimingLoopStaysBounded :=
  fun _ _ hcfg hunits h hstep => (loopBounded_keptByEvents.step ⟨⟨hcfg, hunits⟩, h⟩ hstep).2

end Sys2Proof.TimingLaws
end

section
/-! # What SYNC_CFG and SYNC_PUSH answer (43_synchronizer.md R221 to R237)

One equation an outcome: SYNC_CFG by the validity of the gains (O29), and SYNC_PUSH unconfigured and in the fill (O30),
without a symbol (O31), and with one (O32). -/

namespace Sys2Proof.TimingLaws

open Sys2Proof Sys2Proof.Machine Sys2Proof.DecoderLaws

/-! ### SYNC_CFG (R221 to R223) -/

theorem exec_syncCfg_of_valid {s : State} (h : validCfg s.zeta s.omega = true) :
    exec .syncCfg s = .next (s.setSync { syncReset s.sync with
      alpha := (gains s.zeta s.omega).a, beta := (gains s.zeta s.omega).b, cfgValid := true }) := if_pos h

theorem exec_syncCfg_of_invalid {s : State} (h : ¬validCfg s.zeta s.omega = true) :
    exec .syncCfg s = .next ((s.setSync { syncReset s.sync with
      alpha := fzero, beta := fzero, cfgValid := false }).recordError .cfgInvalid) := if_neg h

theorem validCfg_iff (z w : F32) :
    validCfg z w = true ↔ isFinite z = true ∧ fgt z 0 = true ∧ isFinite w = true ∧ fgt w 0 = true ∧
      isFinite (gains z w).a = true ∧ isFinite (gains z w).b = true := by
  simp only [validCfg, positiveFinite, fzero, Bool.and_eq_true, and_assoc]

/-- Settles O29, by the validity of the configuration. -/
theorem syncCfgDerivesGains : Obligations.SyncCfgDerivesGains := by
  refine ⟨decode_of_eq_encode .syncCfg rfl rfl, ?_⟩
  rintro s t1 t3 den a b rfl rfl rfl rfl rfl
  exact ⟨fun h => exec_syncCfg_of_valid ((validCfg_iff _ _).2 h),
    fun h => exec_syncCfg_of_invalid ((validCfg_iff _ _).not.2 h)⟩

/-! ### SYNC_PUSH (R228) -/

theorem exec_syncPush_of_unconfigured {s : State} (h : s.sync.cfgValid = false) :
    exec .syncPush s = .next (s.recordError .notConfigured) := if_pos (by rw [h]; rfl)

/-- A configured push of a valid sample leaves the synchronizer of `pushSample` and raises its events (R410). -/
theorem exec_syncPush_of_valid {s : State} (hcfg : s.sync.cfgValid = true) (hx : validSample s.sample = true) :
    exec .syncPush s = .next (((s.setSync (pushSample s.sync s.sample).sync).raiseEvent
      (pushSample s.sync s.sample).emitted symEv).raiseEvent (pushSample s.sync s.sample).clamped divEv) :=
  (if_neg (by rw [hcfg]; exact Bool.false_ne_true)).trans (if_neg (by rw [hx]; exact Bool.false_ne_true))

theorem pushSample_of_filling {y : Synchronizer} (x : Cplx) (h : y.fill < 4) :
    pushSample y x = ⟨{ y with symValid := false, hist := shiftIn y.hist x, fill := y.fill + 1 }, false, false⟩ :=
  if_pos h

section Filled

variable {y : Synchronizer} (x : Cplx) (hfill : 4 ≤ y.fill)
include hfill

theorem pushSample_of_decrement (h : flt y.nco (fadd y.w y.v) = false) :
    pushSample y x =
      ⟨{ y with symValid := false, hist := shiftIn y.hist x, nco := fsub y.nco (fadd y.w y.v) }, false, false⟩ :=
  (if_neg (not_lt.2 hfill)).trans (if_neg (Bool.eq_false_iff.1 h))

theorem pushSample_of_strobe (h : flt y.nco (fadd y.w y.v) = true) :
    pushSample y x = strobe (shifted y x) (fadd y.w y.v) := (if_neg (not_lt.2 hfill)).trans (if_pos h)

/-- A midpoint strobe (R234). -/
theorem pushSample_of_midpoint (h : flt y.nco (fadd y.w y.v) = true) (hphase : y.phase = false) :
    pushSample y x = ⟨midpointStrobe (interp (shiftIn y.hist x) (strobeMu y.nco (fadd y.w y.v)))
      (timed (shifted y x) (fadd y.w y.v)), false, false⟩ :=
  (pushSample_of_strobe x hfill h).trans (strobe_of_midpoint (y := shifted y x) hphase _)

/-- An on-time strobe (R235 to R237). -/
theorem pushSample_of_ontime (h : flt y.nco (fadd y.w y.v) = true) (hphase : y.phase = true) :
    pushSample y x = ontimeStrobe (interp (shiftIn y.hist x) (strobeMu y.nco (fadd y.w y.v)))
      (timed (shifted y x) (fadd y.w y.v)) :=
  (pushSample_of_strobe x hfill h).trans (strobe_of_ontime (y := shifted y x) hphase _)

end Filled

/-- Settles O30, by the check of the configuration and the fill. -/
theorem syncPushFillsHistory : Obligations.SyncPushFillsHistory := by
  refine ⟨decode_of_eq_encode .syncPush rfl rfl, fun s => ⟨exec_syncPush_of_unconfigured, fun hcfg hx hfill => ?_⟩⟩
  rw [exec_syncPush_of_valid hcfg hx, pushSample_of_filling s.sample hfill]
  rfl

/-- A function that computes R233's formula is the interpolator of one component. -/
theorem eq_interpComponent {farrow : F32 → F32 → F32 → F32 → F32 → F32}
    (h : ∀ h0 h1 h2 h3 m, farrow h0 h1 h2 h3 m =
      fadd (fmul (fadd
        (fmul (fmul 0x3F000000 (fadd (fsub (fsub h0 h1) h2) h3)) m)
        (fsub (fsub (fsub (fmul h1 0x3FC00000) (fmul h0 0x3F000000)) (fmul h2 0x3F000000)) (fmul h3 0x3F000000)))
        m) h2) : farrow = interpComponent := by
  funext h0 h1 h2 h3 m
  exact h h0 h1 h2 h3 m

/-- Settles O31: a filled history without a strobe, and with a strobe at phase 0. -/
theorem syncPushWithoutSymbol : Obligations.SyncPushWithoutSymbol := by
  rintro s step mu nco h farrow y hcfg hx hfill rfl rfl rfl rfl hfarrow rfl
  obtain rfl := eq_interpComponent hfarrow
  refine ⟨fun hge => ?_, fun hlt hphase => ?_⟩
  · rw [exec_syncPush_of_valid hcfg hx, pushSample_of_decrement s.sample hfill hge]
    rfl
  · rw [exec_syncPush_of_valid hcfg hx, pushSample_of_midpoint s.sample hfill hlt hphase]
    rfl

/-- The integrator and its clamp report, spelled out (R236). -/
theorem nextInteg_eq {st : Synchronizer} {e lim neg i0 i1 i : F32} (hlim : lim = fmul 0x3F000000 st.w)
    (hneg : neg = lim ^^^ 0x80000000) (hi0 : i0 = fadd st.integ (fmul st.beta e))
    (hi1 : i1 = if fgt i0 lim then lim else i0) (hi : i = if flt i1 neg then neg else i1) :
    nextInteg e st = (i, fgt i0 lim || flt i1 neg) := by
  subst hlim hneg hi0 hi1 hi
  rfl

/-- The loop output and its clamp report, spelled out (R236). -/
theorem nextOutput_eq {st : Synchronizer} {e lim neg i v0 v1 v : F32} (hlim : lim = fmul 0x3F000000 st.w)
    (hneg : neg = lim ^^^ 0x80000000) (hi : (nextInteg e st).1 = i) (hv0 : v0 = fadd (fmul st.alpha e) i)
    (hv1 : v1 = if fgt v0 lim then lim else v0) (hv : v = if flt v1 neg then neg else v1) :
    nextOutput e st = (v, fgt v0 lim || flt v1 neg) := by
  subst hlim hneg hi hv0 hv1 hv
  rfl

/-- An event bit that is raised or not is an `or` with the bit or with none (R410). -/
theorem raiseEvent_eq (s : State) (b : Bool) (ev : BitVec 4) :
    s.raiseEvent b ev = { s with irqPend := s.irqPend ||| (if b then ev else 0) } := by
  cases b with
  | false => exact congrArg (fun p => { s with irqPend := p }) (BitVec.or_zero (x := s.irqPend)).symm
  | true => rfl

/-- Settles O32: a filled history with a strobe at phase 1, its loop values the two clamps of the filter. -/
theorem syncPushEmitsSymbol : Obligations.SyncPushEmitsSymbol := by
  rintro s step mu nco e lim neg i0 i1 i v0 v1 v h farrow y clamp hcfg hx hfill rfl hlt hphase rfl rfl rfl hfarrow hy
    he hlim hneg hi0 hi1 hi hv0 hv1 hv hclamp
  obtain rfl := eq_interpComponent hfarrow
  have hinterp : interp (shiftIn s.sync.hist s.sample) (strobeMu s.sync.nco (fadd s.sync.w s.sync.v)) = y := hy.symm
  have hpush := pushSample_of_ontime s.sample hfill hlt hphase
  have herr : timingError (timed (shifted s.sync s.sample) (fadd s.sync.w s.sync.v)) y = e := he.symm
  have hinteg := nextInteg_eq (st := timed (shifted s.sync s.sample) (fadd s.sync.w s.sync.v)) hlim hneg hi0 hi1 hi
  have hout := nextOutput_eq (st := timed (shifted s.sync s.sample) (fadd s.sync.w s.sync.v)) hlim hneg
    (congrArg Prod.fst hinteg) hv0 hv1 hv
  have hreport : clamp = (fgt i0 lim || flt i1 neg || (fgt v0 lim || flt v1 neg)) := hclamp.trans (Bool.or_assoc _ _ _)
  rw [hinterp, ontimeStrobe_of_values herr hinteg hout, ← hreport] at hpush
  rw [exec_syncPush_of_valid hcfg hx, hpush, raiseEvent_eq]
  rfl

end Sys2Proof.TimingLaws
end

section
/-! # The interpolator at μ = 0, and silence (43_synchronizer.md R228, R233, R235, R236)

A product with a zero is a zero, and a zero added to a number leaves its value; so the interpolator gives back its
basepoint at μ = +0.0 (O33), and a loop that has seen zeros only computes +0.0 everywhere and clamps nothing (O35). -/

namespace Sys2Proof.TimingLaws

open Sys2Proof Sys2Proof.Machine Sys2Proof.Safety Sys2Proof.FloatLaws

/-! ### Zeros -/

theorem fmul_zero_right {a : F32} (ha : isFinite a = true) : isFinite (fmul a 0) = true ∧ value (fmul a 0) = 0 := by
  have hround := roundedTo_fmul ha (b := 0) (by decide)
  rw [value_zero, mul_zero] at hround
  exact RoundedTo.value_eq hround (c := 0) (by decide) value_zero

theorem fmul_zero_left {a : F32} (ha : isFinite a = true) : isFinite (fmul 0 a) = true ∧ value (fmul 0 a) = 0 := by
  rw [fmul_comm_of_finite (by decide) ha]
  exact fmul_zero_right ha

/-- A zero added to a number that is none gives the number. -/
theorem fadd_of_value_eq_zero_left {z a : F32} (hz : isFinite z = true ∧ value z = 0) (ha : isFinite a = true)
    (hne : magBits a ≠ 0) : fadd z a = a := by
  have hround := roundedTo_fadd hz.1 ha
  rw [hz.2, zero_add] at hround
  exact eq_of_value_eq (RoundedTo.value_eq hround ha rfl).2 hne

/-- A zero of either sign and +0.0 add to +0.0. -/
theorem fadd_zero_right_of_value_eq_zero {z : F32} (hz : isFinite z = true ∧ value z = 0) : fadd z 0 = 0 := by
  rw [fadd_of_value_add_eq_zero hz.1 (by decide) (by rw [hz.2, value_zero, add_zero])]
  exact congrArg zeroOf (Bool.and_false _)

theorem fadd_zero_left_of_value_eq_zero {z : F32} (hz : isFinite z = true ∧ value z = 0) : fadd 0 z = 0 := by
  rw [fadd_of_value_add_eq_zero (by decide) hz.1 (by rw [hz.2, value_zero, add_zero])]
  exact congrArg zeroOf (Bool.false_and _)

/-! ### The interpolator at μ = +0.0 (R233) -/

/-- Settles O33: the product by μ is a zero, whatever it multiplies. -/
theorem interpolatorAtZero : Obligations.InterpolatorAtZero := by
  intro h0 h1 h2 h3 valid0 valid1 valid2 valid3 hne
  have w0 := within_of_validComponent valid0
  have w1 := within_of_validComponent valid1
  have w2 := within_of_validComponent valid2
  have w3 := within_of_validComponent valid3
  have hmu : InUnit 0 := ⟨by decide, value_zero.ge, value_zero.trans_lt one_pos⟩
  have hslope := ((within_interp_v2 w0 w1 w2 w3).fmul hmu.within).fadd (within_interp_v1 w0 w1 w2 w3)
  exact fadd_of_value_eq_zero_left (fmul_zero_right hslope.finite) w2.finite hne

/-! ### Silence (R228) -/

/-- The interpolator of zeros is +0.0 at every μ. -/
theorem interpComponent_zero {mu : F32} (hmu : isFinite mu = true) : interpComponent 0 0 0 0 mu = 0 := by
  have hv2 : fmul fhalf (fadd (fsub (fsub 0 0) 0) 0) = 0 := by decide
  have hv1 : fsub (fsub (fsub (fmul 0 fonehalf) (fmul 0 fhalf)) (fmul 0 fhalf)) (fmul 0 fhalf) = 0 := by decide
  have hz := fmul_zero_left hmu
  rw [interpComponent, hv2, hv1, fadd_zero_right_of_value_eq_zero hz, fadd_zero_right_of_value_eq_zero hz]

/-- A clamp at a limit that is not negative leaves +0.0. -/
theorem clampSym_zero {lim : F32} (hlim : isFinite lim = true) (hnonneg : 0 ≤ value lim) :
    clampSym lim 0 = (0, false) := by
  have habove : fgt 0 lim = false := by
    rw [Bool.eq_false_iff, Ne, fgt, flt_iff_value hlim (by decide), value_zero, not_lt]
    exact hnonneg
  have hbelow : flt 0 (fneg lim) = false := by
    have hneg := (isFinite_fneg lim).trans hlim
    rw [Bool.eq_false_iff, Ne, flt_iff_value (by decide) hneg, value_zero, value_fneg, not_lt]
    linarith
  simp only [clampSym, habove, hbelow, Bool.false_eq_true, if_false, Bool.or_false]

/-- A zero error leaves a zero integrator and a zero output, whatever the gains, and clamps nothing. -/
theorem nextInteg_zero {st : Synchronizer} (hw : LegalW st.w) (hbeta : isFinite st.beta = true)
    (hinteg : st.integ = 0) : nextInteg 0 st = (0, false) := by
  obtain ⟨hlim, hval⟩ := hw.half
  rw [nextInteg, hinteg, fadd_zero_left_of_value_eq_zero (fmul_zero_right hbeta)]
  exact clampSym_zero hlim (by linarith [hw.low])

theorem nextOutput_zero {st : Synchronizer} (hw : LegalW st.w) (halpha : isFinite st.alpha = true)
    (hbeta : isFinite st.beta = true) (hinteg : st.integ = 0) : nextOutput 0 st = (0, false) := by
  obtain ⟨hlim, hval⟩ := hw.half
  rw [nextOutput, nextInteg_zero hw hbeta hinteg, fadd_zero_right_of_value_eq_zero (fmul_zero_right halpha)]
  exact clampSym_zero hlim (by linarith [hw.low])

/-- The push left the synchronizer silent, and clamped nothing. -/
structure StaysSilent (y : Synchronizer) (o : PushOutcome) : Prop where
  silent : Silent o.sync
  diverged : o.sync.diverged = y.diverged
  clamped : o.clamped = false

theorem staysSilent_strobe {y : Synchronizer} {step : F32} (hw : LegalW y.w)
    (hgains : isFinite y.alpha = true ∧ isFinite y.beta = true) (hs : Silent y)
    (hmu : isFinite (strobeMu y.nco step) = true) : StaysSilent y (strobe y step) := by
  obtain ⟨hymid, hyprev, hsym⟩ := hs.strobes_zero
  obtain ⟨-, hinteg, -⟩ := hs.loop_zero
  have hz : interp y.hist (strobeMu y.nco step) = ⟨0, 0⟩ := by
    rw [hs.hist_zero, interp, interpComponent_zero hmu]
  cases hphase : y.phase with
  | false =>
    rw [strobe_of_midpoint hphase, hz]
    exact ⟨⟨hs.hist_zero, ⟨rfl, hyprev, hsym⟩, hs.loop_zero⟩, rfl, rfl⟩
  | true =>
    have herr : timingError (timed y step) ⟨0, 0⟩ = 0 := by
      have hzero : fadd (fmul 0 (fsub 0 0)) (fmul 0 (fsub 0 0)) = 0 := by decide
      rw [timingError, timed, hymid, hyprev, hzero]
    rw [strobe_of_ontime hphase, hz, ontimeStrobe_of_values herr
      (nextInteg_zero (st := timed y step) hw hgains.2 hinteg)
      (nextOutput_zero (st := timed y step) hw hgains.1 hgains.2 hinteg)]
    exact ⟨⟨hs.hist_zero, ⟨hymid, rfl, rfl⟩, rfl, rfl, rfl⟩, Bool.or_false _, rfl⟩

/-- A zero sample keeps a silent loop silent, whether it fills, strobes, or decrements η. -/
theorem staysSilent_pushSample {y : Synchronizer} (hw : LegalW y.w)
    (hgains : isFinite y.alpha = true ∧ isFinite y.beta = true) (h : LoopBounded y) (hs : Silent y) :
    StaysSilent y (pushSample y ⟨0, 0⟩) := by
  have hhist : shiftIn y.hist ⟨0, 0⟩ = ⟨⟨0, 0⟩, ⟨0, 0⟩, ⟨0, 0⟩, ⟨0, 0⟩⟩ := by rw [hs.hist_zero]; rfl
  obtain ⟨-, heq⟩ | ⟨-, hlt, heq⟩ | ⟨-, -, heq⟩ := pushSample_cases y ⟨0, 0⟩
  · exact heq ▸ ⟨⟨hhist, hs.strobes_zero, hs.loop_zero⟩, rfl, rfl⟩
  · obtain ⟨hfin, hpos, -⟩ := hw.step h.v_bound
    have hmu := inUnit_strobeMu ((inUnit_iff y.nco).2 h.nco_unit) hfin hpos hlt
    obtain ⟨hsilent, hdiverged, hclamped⟩ := staysSilent_strobe (y := shifted y ⟨0, 0⟩) (step := fadd y.w y.v) hw hgains
      ⟨hhist, hs.strobes_zero, hs.loop_zero⟩ hmu.finite
    exact heq ▸ ⟨hsilent, hdiverged, hclamped⟩
  · exact heq ▸ ⟨⟨hhist, hs.strobes_zero, hs.loop_zero⟩, rfl, rfl⟩

/-- Raising SYM_EV or not leaves the other events (R410). -/
theorem raise_symEv_and (p : BitVec 4) (b : Bool) : (if b then p ||| symEv else p) &&& 0b1101 = p &&& 0b1101 := by
  cases b with
  | false => rfl
  | true =>
    have hmask : symEv &&& 0b1101 = 0#4 := by decide
    rw [if_pos rfl, BitVec.and_or_distrib_right, hmask, BitVec.or_zero]

/-- Settles O35: the push of a zero sample, without an event but SYM_EV. -/
theorem silenceKeepsTheLoopStill : Obligations.SilenceKeepsTheLoopStill := by
  intro s hlegal hunits hbounded hsilent hcfg hi hq
  have hsample : s.sample = ⟨0, 0⟩ := by rw [State.sample, hi, hq]
  have hvalid : validSample s.sample = true := by rw [hsample]; decide
  obtain ⟨hsync, hdiverged, hclamped⟩ :=
    staysSilent_pushSample (legalW_of_configLegal hlegal) hunits.gains_finite hbounded hsilent
  rw [← hsample] at hsync hdiverged hclamped
  refine ⟨_, exec_syncPush_of_valid hcfg hvalid, hsync, hdiverged, ?_⟩
  rw [hclamped]
  exact raise_symEv_and s.irqPend _

end Sys2Proof.TimingLaws
end

section
/-! # What CORR_PUSH and CORR_SWEEP answer (44_correlator.md R273 to R285)

CORR_PUSH has one answer per outcome of `corr_append` (O36). CORR_SWEEP fails where the template is empty and then where
the window is short (O38), and else answers the first peak of whatever function the confidence is
(`exec_corrSweep_firstPeak`): with the sums of R275 to R277 spelled out this is O39, and with the confidence +0.0 of a
window of zeros it is O41. -/

namespace Sys2Proof.CorrelatorLaws

open Sys2Proof Sys2Proof.Machine Sys2Proof.Safety Sys2Proof.DecoderLaws

/-! ### CORR_PUSH (R273, R274) -/

theorem corrAppend_of_lt {c : Correlator} (x : Cplx) (h : c.win.length < 4096) :
    corrAppend c x = { c with win := c.win ++ [x] } := if_pos h

theorem corrAppend_of_full {c : Correlator} (x : Cplx) (h : 4096 ≤ c.win.length) :
    corrAppend c x = { c with win := c.win.tail ++ [x], winBase := c.winBase + 1 } := if_neg (not_lt.2 h)

/-- Settles O36, by the two outcomes of `corr_append`. -/
theorem corrPushAppendsOrSlides : Obligations.CorrPushAppendsOrSlides := by
  refine ⟨decode_of_eq_encode .corrPush rfl rfl, fun s hx => ⟨fun hlt => ?_, fun hfull => ?_⟩⟩
  · rw [StateLaws.exec_corrPush_of_valid hx, corrAppend_of_lt _ hlt]
    rfl
  · rw [StateLaws.exec_corrPush_of_valid hx, corrAppend_of_full _ hfull, List.drop_one]
    rfl

/-! ### CORR_SWEEP (R278 to R281) -/

/-- The template is empty exactly where its span holds DATA positions only (R275, R279). -/
theorem template_eq_nil_iff (s : State) :
    s.template = [] ↔ ∀ k, k < s.tplLen → s.isProbe ((s.tplStart + k) % s.sfLen) = false := by
  simp only [template_eq, List.map_eq_nil_iff, List.filter_eq_nil_iff, List.mem_range, Bool.not_eq_true]

theorem template_ne_nil_of_probe {s : State}
    (h : ∃ k, k < s.tplLen ∧ s.isProbe ((s.tplStart + k) % s.sfLen) = true) : s.template ≠ [] := by
  obtain ⟨k, hk, hprobe⟩ := h
  intro hnil
  exact Bool.eq_false_iff.1 ((template_eq_nil_iff s).1 hnil k hk) hprobe

theorem exec_corrSweep_of_empty {s : State} (h : s.template = []) :
    exec .corrSweep s = .next (s.recordError .tplEmpty) := if_pos (List.isEmpty_iff.2 h)

theorem exec_corrSweep_of_short {s : State} (h : s.template ≠ [])
    (hshort : s.corr.win.length < s.searchLen - 1 + s.tplLen * s.sps) :
    exec .corrSweep s = .next (s.recordError .sweepShort) :=
  (if_neg (List.isEmpty_iff.not.2 h)).trans (if_pos hshort)

/-- A sweep that passes its checks writes what its search found, and raises ACQ_EV with ACQ (R278, R281). -/
theorem exec_corrSweep_of_found {s : State} {best : F32} {tau : Nat} (h : s.template ≠ [])
    (henough : s.searchLen - 1 + s.tplLen * s.sps ≤ s.corr.win.length) (hfound : s.sweepResult = ⟨some best, tau⟩) :
    exec .corrSweep s = .next { s with
      irqPend := s.irqPend ||| (if fgt best s.corrThresh then 0b0100 else 0)
      corr := { s.corr with best := tau, conf := best, acq := fgt best s.corrThresh, sweepValid := true } } := by
  refine ((if_neg (List.isEmpty_iff.not.2 h)).trans (if_neg (not_lt.2 henough))).trans ?_
  dsimp only
  rw [hfound, TimingLaws.raiseEvent_eq]
  rfl

/-- A sweep that passes its checks answers the first peak of the confidence, whatever function `cf` that is (R280). -/
theorem exec_corrSweep_firstPeak {s : State} {cf : Nat → F32}
    (hcf : ∀ tau, conf s.corr s.sps s.template (templateEnergy s.template) tau = cf tau)
    (hsearch : 1 ≤ s.searchLen) (h : s.template ≠ [])
    (henough : s.searchLen - 1 + s.tplLen * s.sps ≤ s.corr.win.length) :
    ∃ tau, tau < s.searchLen ∧
      exec .corrSweep s = .next { s with
        irqPend := s.irqPend ||| (if fgt (cf tau) s.corrThresh then 0b0100 else 0)
        corr := { s.corr with
          best := tau, conf := cf tau, acq := fgt (cf tau) s.corrThresh, sweepValid := true } } ∧
      (∀ k, k < s.searchLen → fgt (cf k) (cf tau) = false) ∧
      (∀ k, k < tau → fge (cf k) (cf tau) = false) := by
  obtain rfl := funext hcf
  obtain ⟨tau, hlt, hfound, hmax, hfirst⟩ :=
    sweepSearch_spec (conf s.corr s.sps s.template (templateEnergy s.template)) (s.searchLen - 1)
  rw [Nat.sub_add_cancel hsearch] at hlt hfound hmax
  exact ⟨tau, hlt, exec_corrSweep_of_found h henough hfound, hmax, hfirst⟩

/-- Settles O38, by the two checks in their order. -/
theorem sweepPreconditions : Obligations.SweepPreconditions :=
  ⟨decode_of_eq_encode .corrSweep rfl rfl, fun s _ =>
    ⟨fun hdata => exec_corrSweep_of_empty ((template_eq_nil_iff s).2 hdata),
      fun hprobe => exec_corrSweep_of_short (template_ne_nil_of_probe hprobe)⟩⟩

/-- Settles O39: the confidence of the spelled-out sums is the model's, and a sweep answers its first peak. -/
theorem sweepReportsFirstPeak : Obligations.SweepReportsFirstPeak := by
  intro s pos present point r et are aim er c cf hpos hpresent hpoint hr het hare haim her hc hcf hsearch hne henough
  have htemplate : s.template = present.map (fun k => ⟨k, point k⟩) := by
    simp only [template_eq, hpresent, hpoint, hpos, scrS_mod]
    rfl
  have hmatched (tau k : Nat) : matched s.corr s.sps tau k = r tau k := (hr tau k).symm
  have hconf (tau : Nat) : conf s.corr s.sps s.template (templateEnergy s.template) tau = cf tau := by
    rw [conf, foldl_addEntry, templateEnergy, htemplate]
    simp only [List.foldl_map, hmatched]
    rw [hcf, hc, hare, haim, her, het]
    rfl
  refine exec_corrSweep_firstPeak hconf hsearch ?_ henough
  rwa [htemplate, Ne, List.map_eq_nil_iff]

/-! ### Silence (R277, R284, R285) -/

/-- What holds of the held samples and of (+0.0, +0.0) holds of WIN[i] for every i. -/
theorem winAt_of_forall_mem {P : Cplx → Prop} {c : Correlator} (h : ∀ x ∈ c.win, P x) (hzero : P czero) (i : Nat) :
    P (c.winAt i) := by
  unfold Correlator.winAt
  rcases Nat.lt_or_ge i c.win.length with hi | hi
  · rw [List.getD_eq_getElem _ _ hi]
    exact h _ (List.getElem_mem hi)
  · rwa [List.getD_eq_default _ _ hi]

theorem foldl_fadd_eq_zero {α : Type} (f : α → F32) (l : List α) (h : ∀ x ∈ l, f x = 0) :
    l.foldl (fun acc x => fadd acc (f x)) 0 = 0 := by
  refine List.foldlRecOn l _ (motive := (· = 0)) rfl fun acc hacc x hx => ?_
  rw [hacc, h x hx]
  decide

/-- The matched filter of zeros is zero at every offset and slot (R276). -/
theorem matched_of_zeros {c : Correlator} (h : ∀ x ∈ c.win, x = ⟨0, 0⟩) (sps tau k : Nat) :
    matched c sps tau k = ⟨0, 0⟩ := by
  have hwin (i : Nat) : c.winAt i = ⟨0, 0⟩ := winAt_of_forall_mem (P := fun x => x = ⟨0, 0⟩) h rfl i
  have hsum (part : Cplx → F32) (hpart : part ⟨0, 0⟩ = 0) : boxcar part c (tau + k * sps) sps = 0 :=
    foldl_fadd_eq_zero _ _ fun i _ => by rw [hwin, hpart]
  rw [matched, hsum _ rfl, hsum _ rfl]

/-- The confidence of silence is +0.0: its energy sum is (R277). -/
theorem conf_of_zeros {c : Correlator} (h : ∀ x ∈ c.win, x = ⟨0, 0⟩) (sps : Nat) (ts : List TemplateEntry) (et : F32)
    (tau : Nat) : conf c sps ts et tau = 0 := by
  have henergy : ts.foldl (fun x t => fadd x (energy (matched c sps tau t.k))) fzero = 0 :=
    foldl_fadd_eq_zero _ _ fun t _ => by
      rw [matched_of_zeros h]
      decide
  rw [conf, foldl_addEntry, henergy]
  exact if_pos (show feq 0 fzero = true by decide)

/-- A legal threshold is not below +0.0 (R39, R321). -/
theorem fgt_zero_of_validThresh {v : F32} (h : validThresh v = true) : fgt 0 v = false := by
  simp only [validThresh, Bool.and_eq_true] at h
  rw [Bool.eq_false_iff, Ne, fgt_iff]
  rintro ⟨-, -, hlt⟩
  exact absurd ((fge_iff _ _).1 h.1.2).2.2 (not_le.2 hlt)

/-- Settles O41: the confidence is +0.0 at every offset, so the first peak is at offset 0. -/
theorem silentWindowIsNotAcquired : Obligations.SilentWindowIsNotAcquired := by
  intro s hsearch hthresh hzeros hprobe henough
  obtain ⟨tau, -, hexec, -, hfirst⟩ := exec_corrSweep_firstPeak (fun tau => conf_of_zeros hzeros _ _ _ tau) hsearch
    (template_ne_nil_of_probe hprobe) henough
  obtain rfl : tau = 0 := Nat.eq_zero_of_not_pos fun hpos => absurd (hfirst 0 hpos) (by decide)
  rw [hexec, fgt_zero_of_validThresh hthresh]
  simp

end Sys2Proof.CorrelatorLaws
end

section
/-! # Sums of f32 that stay bounded and not negative (00_scope.md R14)

A bound m · 2^j on every term of a sequential sum grows by m an addition, so a sum of few enough terms stays finite
(`foldl_fadd_of_add`). Squares, and sums and products of numbers with clear sign bits, have clear sign bits. Quotients
and roots of such numbers may overflow, but they are no NaN and their sign bits stay clear. -/

namespace Sys2Proof.FloatLaws

open Sys2Proof Sys2Proof.Machine Sys2Proof.Safety Sys2Proof.Rounding

/-! ### Bounds with a clear sign bit -/

/-- a is finite, its sign bit is clear, and it is at most n · 2^j. -/
structure NonnegWithin (n j : Nat) (a : F32) : Prop extends Within n j a where
  sign : signBit a = false

theorem value_nonneg_of_signBit {a : F32} (h : signBit a = false) : 0 ≤ value a :=
  not_lt.1 fun hneg => Bool.eq_false_iff.1 h ((value_neg_iff a).1 hneg).1

section Bounds

variable {m n j k : Nat} {a b : F32}

theorem Within.mono (h : Within m j a) (hle : m ≤ n) : Within n j a :=
  ⟨h.finite, h.abs_le.trans (mul_le_mul_of_nonneg_right (Nat.cast_le.2 hle) (by positivity))⟩

/-- The same bound counted in a unit 2^k times as large. -/
theorem Within.rescale (h : Within (n * 2 ^ k) j a) : Within n (k + j) a := by
  refine ⟨h.finite, h.abs_le.trans_eq ?_⟩
  push_cast
  ring

theorem NonnegWithin.mono (h : NonnegWithin m j a) (hle : m ≤ n) : NonnegWithin n j a :=
  ⟨h.toWithin.mono hle, h.sign⟩

theorem NonnegWithin.rescale (h : NonnegWithin (n * 2 ^ k) j a) : NonnegWithin n (k + j) a :=
  ⟨h.toWithin.rescale, h.sign⟩

theorem NonnegWithin.fadd (ha : NonnegWithin m j a) (hb : NonnegWithin n j b) (hn : m + n ≤ 2 ^ 24 := by norm_num)
    (hj : j ≤ 103 := by norm_num) : NonnegWithin (m + n) j (fadd a b) := by
  refine ⟨ha.toWithin.fadd hb.toWithin hn hj, ?_⟩
  have hnonneg : 0 ≤ scaledInt a + scaledInt b := by
    simp only [scaledInt, ha.sign, hb.sign, Bool.false_eq_true, if_false]
    positivity
  rw [fadd_of_finite ha.finite hb.finite, ha.sign, hb.sign]
  split
  · exact signBit_withSign _ _ (by decide)
  · rw [decide_eq_false (not_lt.2 hnonneg), signBit_ratio]

theorem NonnegWithin.fmul (ha : NonnegWithin m j a) (hb : NonnegWithin n k b) (hn : m * n ≤ 2 ^ 24 := by norm_num)
    (hj : j + k ≤ 103 := by norm_num) : NonnegWithin (m * n) (j + k) (fmul a b) := by
  refine ⟨ha.toWithin.fmul hb.toWithin hn hj, ?_⟩
  rw [fmul_of_finite ha.finite hb.finite, signBit_ratio, ha.sign, hb.sign]
  rfl

theorem nonnegWithin_square (h : Within m j a) (hn : m * m ≤ 2 ^ 24 := by norm_num)
    (hj : j + j ≤ 103 := by norm_num) : NonnegWithin (m * m) (j + j) (fmul a a) :=
  ⟨h.fmul h hn hj, by rw [fmul_of_finite h.finite h.finite, signBit_ratio, bne_self_eq_false]⟩

/-- Adding a number that is not negative does not go below the other one: rounding is monotone. -/
theorem NonnegWithin.le_fadd_right (ha : NonnegWithin m j a) (hb : NonnegWithin n j b)
    (hn : m + n ≤ 2 ^ 24 := by norm_num) (hj : j ≤ 103 := by norm_num) : value b ≤ value (Machine.fadd a b) := by
  obtain ⟨c, hc, hval⟩ := exists_value_eq hn hj
  have hnonneg := value_nonneg_of_signBit ha.sign
  have hle : value a + value b ≤ value c := by
    rw [hval]
    push_cast
    linarith [le_of_abs_le ha.abs_le, le_of_abs_le hb.abs_le]
  exact (RoundedTo.between (roundedTo_fadd ha.finite hb.finite) hb.finite hc (by linarith) hle).2.1

end Bounds

/-! ### Sequential sums -/

/-- A family of bounds that +0.0 meets and additions add up, a sequential sum from +0.0 meets with its length. -/
theorem foldl_fadd_of_add {α : Type} {P : Nat → F32 → Prop} {n : Nat} (hzero : P 0 fzero)
    (hadd : ∀ {m a b}, P m a → P n b → m + n ≤ 2 ^ 24 → P (m + n) (fadd a b)) (f : α → F32) (l : List α)
    (h : ∀ x ∈ l, P n (f x)) (hlen : l.length * n ≤ 2 ^ 24) :
    P (l.length * n) (l.foldl (fun acc x => fadd acc (f x)) fzero) := by
  induction l using List.reverseRecOn with
  | nil => rwa [List.length_nil, Nat.zero_mul]
  | append_singleton xs x ih =>
    obtain ⟨hxs, hx⟩ := List.forall_mem_append.1 h
    rw [List.length_append, List.length_singleton, Nat.succ_mul] at hlen ⊢
    rw [List.foldl_append]
    exact hadd (ih hxs (le_of_add_le_left hlen)) (hx x (List.mem_singleton_self x)) hlen

theorem nonnegWithin_fzero (j : Nat) : NonnegWithin 0 j fzero := by
  have hval : value fzero = 0 := (value_eq_zero_iff fzero).2 rfl
  exact ⟨⟨by decide, by rw [hval, abs_zero, Nat.cast_zero, zero_mul]⟩, by decide⟩

section Sums

variable {α : Type} {n j N : Nat} (f : α → F32) {l : List α} (hlen : l.length ≤ N)
include hlen

theorem within_foldl_fadd (h : ∀ x ∈ l, Within n j (f x)) (hN : N * n ≤ 2 ^ 24 := by norm_num)
    (hj : j ≤ 103 := by norm_num) : Within (N * n) j (l.foldl (fun acc x => fadd acc (f x)) fzero) :=
  have hle := Nat.mul_le_mul_right n hlen
  (foldl_fadd_of_add (P := (Within · j)) (nonnegWithin_fzero j).toWithin (fun ha hb hn => ha.fadd hb hn hj) f l h
    (hle.trans hN)).mono hle

theorem nonnegWithin_foldl_fadd (h : ∀ x ∈ l, NonnegWithin n j (f x)) (hN : N * n ≤ 2 ^ 24 := by norm_num)
    (hj : j ≤ 103 := by norm_num) : NonnegWithin (N * n) j (l.foldl (fun acc x => fadd acc (f x)) fzero) :=
  have hle := Nat.mul_le_mul_right n hlen
  (foldl_fadd_of_add (P := (NonnegWithin · j)) (nonnegWithin_fzero j) (fun ha hb hn => ha.fadd hb hn hj) f l h
    (hle.trans hN)).mono hle

end Sums

/-! ### Products that are not zero, quotients and roots -/

theorem value_leastSubnormal : value 1 = 1 / 2 ^ 149 := by
  rw [value_eq_scaledInt, show scaledInt 1 = 1 by decide, Int.cast_one]

/-- No number but the zeros is below 2^-149 in magnitude. -/
theorem le_value_of_ne_zero {a : F32} (hs : signBit a = false) (h : magBits a ≠ 0) : 1 / 2 ^ 149 ≤ value a := by
  have hscaled : (1 : ℝ) ≤ scaled a := Nat.one_le_cast.2 (Nat.pos_of_ne_zero ((scaled_eq_zero_iff a).not.2 h))
  rw [value_eq_signed, hs]
  exact div_le_div_of_nonneg_right hscaled (by positivity)

/-- A real above half the least number does not round to zero. -/
theorem magBits_ne_zero_of_roundedTo {x : ℝ} {r : F32} (h : RoundedTo x r) (hx : 1 / 2 ^ 150 < x)
    (hover : x < overflowAt) : magBits r ≠ 0 := by
  intro hzero
  have hpos : 0 < x := lt_trans (by positivity) hx
  have hnear := h.nearest (by rwa [abs_of_pos hpos]) 1 (by decide)
  rw [(value_eq_zero_iff r).2 hzero, zero_sub, abs_neg, abs_of_pos hpos, value_leastSubnormal, le_abs'] at hnear
  have hunit : (0 : ℝ) < 1 / 2 ^ 149 := by positivity
  rcases hnear with hnear | hnear <;> linarith

/-- A product with a number above one half is zero only where the other factor is. -/
theorem NonnegWithin.magBits_fmul_ne_zero {m n j k : Nat} {a b : F32} (ha : NonnegWithin m j a)
    (hb : NonnegWithin n k b) (hn : m * n ≤ 2 ^ 24 := by norm_num) (hj : j + k ≤ 103 := by norm_num)
    (hne : magBits a ≠ 0) (hhalf : 1 / 2 < value b) : magBits (Machine.fmul a b) ≠ 0 := by
  obtain ⟨c, hc, hval⟩ := exists_value_eq hn hj
  have hlow := le_value_of_ne_zero ha.sign hne
  refine magBits_ne_zero_of_roundedTo (roundedTo_fmul ha.finite hb.finite) ?_ ?_
  · have hunit : (0 : ℝ) < 1 / 2 ^ 149 := by positivity
    calc (1 : ℝ) / 2 ^ 150 = 1 / 2 ^ 149 * (1 / 2) := by norm_num
      _ < 1 / 2 ^ 149 * value b := by gcongr
      _ ≤ value a * value b := by gcongr
  · refine lt_of_le_of_lt ?_ (abs_lt.1 (abs_value_lt_overflowAt hc)).2
    calc value a * value b ≤ (m * 2 ^ j) * (n * 2 ^ k) :=
          mul_le_mul (le_of_abs_le ha.abs_le) (le_of_abs_le hb.abs_le) (value_nonneg_of_signBit hb.sign) (by positivity)
      _ = value c := by rw [hval]; push_cast; ring

/-- a is a number, finite or infinite, and its sign bit is clear. -/
structure Unsigned (a : F32) : Prop where
  number : isNaN a = false
  sign : signBit a = false

theorem unsigned_fdiv {a b : F32} (ha : isFinite a = true) (hb : isFinite b = true) (hsa : signBit a = false)
    (hsb : signBit b = false) (hne : magBits b ≠ 0) : Unsigned (fdiv a b) where
  number := RoundedTo.isNaN_eq_false (roundedTo_fdiv ha hb hne)
  sign := by rw [fdiv_of_finite ha hb hne, signBit_ratio, hsa, hsb]; rfl

theorem Unsigned.withSign {m : Nat} (h : m ≤ infMag) : Unsigned (withSign false m) where
  number := by
    rw [isNaN, magBits_withSign _ _ (h.trans_lt infMag_lt)]
    exact decide_eq_false (not_lt.2 h)
  sign := signBit_withSign _ _ (h.trans_lt infMag_lt)

theorem Unsigned.fsqrt {a : F32} (h : Unsigned a) : Unsigned (fsqrt a) := by
  unfold Machine.fsqrt
  rw [if_neg (Bool.eq_false_iff.1 h.number)]
  split
  · exact h
  · rw [if_neg (Bool.eq_false_iff.1 h.sign)]
    split
    · exact h
    · exact .withSign (magRounded_roundSqrt _).le_infMag

/-- A number with a clear sign bit stands in the order where its pattern does. -/
theorem Unsigned.orderKey_eq {a : F32} (h : Unsigned a) : orderKey a = magBits a :=
  if_neg (Bool.eq_false_iff.1 h.sign)

end Sys2Proof.FloatLaws
end

section
/-! # The confidence lies in [+0.0, 1.0] (44_correlator.md R276, R277)

Samples of at most 2^16 keep every intermediate finite. The template's energy is at least the f32 below 1.0, so the
divisor of R277 is zero only where the window's energy is; then the quotient and its root are no NaN and not negative,
and the clamp at 1.0 does the rest (O40). The Cauchy–Schwarz inequality, which says why the clamp is hardly met, is not
needed. -/

namespace Sys2Proof.CorrelatorLaws

open Sys2Proof Sys2Proof.Machine Sys2Proof.Safety Sys2Proof.FloatLaws Sys2Proof.TimingLaws

/-! ### The template (R275) -/

/-- An energy sum of m / 2 points: at most m, and at least the f32 below 1.0 unless it is empty. -/
structure PointEnergy (m : Nat) (a : F32) : Prop extends NonnegWithin m 0 a where
  low : m ≠ 0 → value fbelowOne ≤ value a

/-- What the sums use of a constellation point. -/
structure PointBounded (z : Cplx) : Prop where
  i : Within 1 0 z.i
  q : Within 1 0 z.q
  low : fle fbelowOne (energy z) = true

/-- The points of both constellations lie in the unit square and next to the unit circle (R170). -/
theorem pointBounded_constellation {n k : Nat} (hn : n = 8 ∨ n = 4) (hk : k < n) :
    PointBounded (constellation n k) := by
  have hall : ∀ k : Fin n, fle (fabs (constellation n k).i) fone = true ∧ fle (fabs (constellation n k).q) fone = true ∧
      fle fbelowOne (energy (constellation n k)) = true := by
    obtain rfl | rfl := hn <;> decide +kernel
  obtain ⟨hi, hq, hlow⟩ := hall ⟨k, hk⟩
  have hone : value fone = (1 : Nat) * 2 ^ 0 := value_fone.trans (by norm_num)
  exact ⟨(within_iff_fle (by decide) hone).2 hi, (within_iff_fle (by decide) hone).2 hq, hlow⟩

theorem pointBounded_of_mem_template {s : State} {e : TemplateEntry} (h : e ∈ s.template) : PointBounded e.t := by
  rw [template_eq, List.mem_map] at h
  obtain ⟨k, -, rfl⟩ := h
  exact pointBounded_constellation (order_eight_or_four s) (Nat.mod_lt _ (order_pos s))

theorem length_template_le (s : State) : s.template.length ≤ s.tplLen := by
  rw [template_eq, List.length_map]
  exact (List.length_filter_le _ _).trans_eq List.length_range

theorem PointBounded.energy {z : Cplx} (h : PointBounded z) : PointEnergy 2 (energy z) := by
  have hsum : NonnegWithin 2 0 (Machine.energy z) := (nonnegWithin_square h.i).fadd (nonnegWithin_square h.q)
  exact ⟨hsum, fun _ => (fle_iff_value (by decide) hsum.finite).1 h.low⟩

theorem PointEnergy.fadd {m : Nat} {a b : F32} (ha : PointEnergy m a) (hb : PointEnergy 2 b) (h : m + 2 ≤ 2 ^ 24) :
    PointEnergy (m + 2) (fadd a b) :=
  ⟨ha.toNonnegWithin.fadd hb.toNonnegWithin h,
    fun _ => (hb.low two_ne_zero).trans (ha.toNonnegWithin.le_fadd_right hb.toNonnegWithin h)⟩

/-- The template energy of at least one point is at least the f32 below 1.0 (R277). -/
theorem pointEnergy_templateEnergy {ts : List TemplateEntry} (hts : ∀ e ∈ ts, PointBounded e.t)
    (hlen : ts.length ≤ 256) : PointEnergy (ts.length * 2) (templateEnergy ts) :=
  foldl_fadd_of_add (P := PointEnergy) ⟨nonnegWithin_fzero 0, fun h => absurd rfl h⟩ PointEnergy.fadd _ ts
    (fun e he => (hts e he).energy) (by omega)

/-! ### The sums (R276, R277) -/

/-- The sums of R277 are finite: in magnitude Re and Im are at most 2^31; the energy is not negative and at most
2^53. -/
structure SumsBounded (a : CorrSums) : Prop where
  are : Within 1 31 a.are
  aim : Within 1 31 a.aim
  er : NonnegWithin 1 53 a.er

section Sums

variable {c : Correlator} {sps : Nat} (hwin : ∀ x ∈ c.win, validSample x = true) (hsps : sps ≤ 64)
include hwin hsps

/-- A boxcar sum of at most 64 samples of 2 · 2^15 is at most 2^22 (R276). -/
theorem within_matched (tau k : Nat) :
    Within 128 15 (matched c sps tau k).i ∧ Within 128 15 (matched c sps tau k).q := by
  have hsample (i : Nat) : Within 2 15 (c.winAt i).i ∧ Within 2 15 (c.winAt i).q := by
    have hvalid : validSample (c.winAt i) = true := winAt_of_forall_mem hwin (by decide) i
    rw [validSample, Bool.and_eq_true] at hvalid
    exact ⟨within_of_validComponent hvalid.1, within_of_validComponent hvalid.2⟩
  have hlen : (List.range sps).length ≤ 64 := List.length_range.trans_le hsps
  exact ⟨within_foldl_fadd _ hlen fun i _ => (hsample _).1, within_foldl_fadd _ hlen fun i _ => (hsample _).2⟩

theorem sumsBounded_foldl {ts : List TemplateEntry} (hts : ∀ e ∈ ts, PointBounded e.t) (hlen : ts.length ≤ 256)
    (tau : Nat) : SumsBounded (ts.foldl (addEntry c sps tau) ⟨fzero, fzero, fzero⟩) := by
  have hr := within_matched hwin hsps tau
  rw [foldl_addEntry]
  refine ⟨?are, ?aim, ?er⟩
  case are =>
    refine Within.rescale (n := 1) (k := 16) (within_foldl_fadd (n := 256) (j := 15) (N := 256) _ hlen fun e he => ?_)
    exact ((hr e.k).1.fmul (hts e he).i).fadd ((hr e.k).2.fmul (hts e he).q)
  case aim =>
    refine Within.rescale (n := 1) (k := 16) (within_foldl_fadd (n := 256) (j := 15) (N := 256) _ hlen fun e he => ?_)
    exact ((hr e.k).2.fmul (hts e he).i).fsub ((hr e.k).1.fmul (hts e he).q)
  case er =>
    refine NonnegWithin.rescale (n := 1) (k := 23)
      (nonnegWithin_foldl_fadd (n := 32768) (j := 30) (N := 256) _ hlen fun e _ => ?_)
    exact (nonnegWithin_square (hr e.k).1).fadd (nonnegWithin_square (hr e.k).2)

end Sums

/-! ### The quotient, its root and the clamp (R277) -/

/-- R277's property of a confidence. -/
def InUnitInterval (a : F32) : Prop :=
  isFinite a = true ∧ signBit a = false ∧ fge a fzero = true ∧ fle a fone = true

/-- The clamp at 1.0 takes any number with a clear sign bit, infinity too, into the interval. -/
theorem inUnitInterval_clamp {a : F32} (h : Unsigned a) : InUnitInterval (if fgt a fone then fone else a) := by
  split
  · unfold InUnitInterval
    decide
  · rename_i hgt
    have hkey : orderKey a ≤ orderKey fone :=
      not_lt.1 fun hlt => hgt ((fgt_iff _ _).2 ⟨by decide, h.number, hlt⟩)
    have hnonneg : orderKey fzero ≤ orderKey a := by
      rw [h.orderKey_eq]
      exact Int.natCast_nonneg _
    have hone : orderKey fone < infMag := by decide
    refine ⟨(isFinite_iff a).2 ?_, h.sign, (fge_iff _ _).2 ⟨by decide, h.number, hnonneg⟩,
      (fle_iff _ _).2 ⟨h.number, by decide, hkey⟩⟩
    rw [h.orderKey_eq] at hkey
    omega

/-- The last steps of R277 on bounded sums, with a template energy above one half unless the window's energy is zero. -/
theorem inUnitInterval_confidence {et : F32} {a : CorrSums} (h : SumsBounded a) (het : NonnegWithin 512 0 et)
    (hhalf : magBits a.er ≠ 0 → 1 / 2 < value et) : InUnitInterval (confidence et a) := by
  unfold confidence
  split
  · unfold InUnitInterval
    decide
  · rename_i hne
    rw [feq_iff_value h.er.finite (by decide), show value fzero = 0 from value_zero, value_eq_zero_iff] at hne
    have hnum := (nonnegWithin_square h.are).fadd (nonnegWithin_square h.aim)
    have hden := h.er.fmul het
    exact inUnitInterval_clamp (unsigned_fdiv hnum.finite hden.finite hnum.sign hden.sign
      (h.er.magBits_fmul_ne_zero het (hne := hne) (hhalf := hhalf hne))).fsqrt

/-- Settles O40, by the bounds of the sums; without a template entry the window's energy sum is empty. -/
theorem confidenceInUnitInterval : Obligations.ConfidenceInUnitInterval := by
  intro s tau hlegal hwin
  have hts : ∀ e ∈ s.template, PointBounded e.t := fun _ => pointBounded_of_mem_template
  have hlen : s.template.length ≤ 256 := (length_template_le s).trans hlegal.tpl_range.2
  have hsums := sumsBounded_foldl hwin hlegal.sps_range.2 hts hlen tau
  have het := pointEnergy_templateEnergy hts hlen
  refine inUnitInterval_confidence hsums (het.toNonnegWithin.mono (by omega)) fun hne => ?_
  have hentry : s.template ≠ [] := by
    intro hnil
    rw [hnil] at hne
    exact hne rfl
  have hlow := het.low (Nat.mul_ne_zero (List.length_eq_zero_iff.not.2 hentry) two_ne_zero)
  rw [value_fbelowOne] at hlow
  linarith

end Sys2Proof.CorrelatorLaws
end

section
/-! # Completions, register writes and the reset commands (45_control.md R310 to R323, 70_reset_and_hazards.md R465)

A completing step is `complete` of the state whose inbox has moved on (O6); a host write is dropped while a command is
in flight (O42), and is the register's own write while none is (`step_write_reg`). So O7 and O46 to O49 are what the
writes of CMD, STATUS, the interrupt registers and the validated registers leave; the reset commands are O17. -/

namespace Sys2Proof.ControlLaws

open Sys2Proof Sys2Proof.Machine Sys2Proof.Safety Sys2Proof.StateLaws

/-! ### Completions (R19, R311) -/

/-- A step completes the pending command at a `complete` event, and where no host event is left (log 2). -/
theorem step_of_completing {s : State} (h : s.inbox = [] ∨ s.inbox.head? = some .complete) :
    step s = complete s.taken := by
  obtain hnil | hhead := h
  · have htaken : s.taken = s := by rw [State.taken, hnil, List.tail_nil, ← hnil]
    rw [StepLaws.step_of_inbox_nil s hnil, htaken]
  · obtain ⟨rest, hin⟩ := List.head?_eq_some_iff.1 hhead
    exact StepLaws.step_of_inbox_cons s .complete rest hin

theorem complete_of_decode {s : State} {w : Word} {i : Instr} (hpend : s.pending = some w) (hdecode : decode w = .ok i) :
    complete s = exec i s.retire := by
  simp only [complete, hpend, hdecode]

/-- The step that completes an illegal word records ILLEGAL_CMD and performs nothing (R405). -/
theorem step_of_illegal {s : State} {w : Word} (hpend : s.pending = some w)
    (hinbox : s.inbox = [] ∨ s.inbox.head? = some .complete) (hillegal : ∀ i, decode w ≠ .ok i) :
    step s = .next (s.taken.retire.recordError .illegalCmd) :=
  (step_of_completing hinbox).trans (DecoderLaws.complete_of_illegal (s := s.taken) hpend hillegal)

/-- Settles O6: the step is a completion, whose pending word decodes. -/
theorem stepRunsDecodedCommand : Obligations.StepRunsDecodedCommand := by
  intro s w i hpend hdecode hinbox
  rw [step_of_completing hinbox, complete_of_decode (s := s.taken) hpend hdecode]
  rfl

/-! ### The reset commands (R141, R225, R271, R310 to R313) -/

/-- Settles O17: each command puts its units' reset values, which the statement writes out, and nothing else. -/
theorem resetCommandsComplete : Obligations.ResetCommandsComplete :=
  fun _ => ⟨rfl, rfl, rfl, rfl, rfl⟩

/-! ### Host writes while busy and while idle (R314, R465) -/

theorem taken_of_inbox_cons {s : State} {ev : Event} {rest : List Event} (hin : s.inbox = ev :: rest) :
    s.taken = { s with inbox := rest } := by
  rw [State.taken, hin, List.tail_cons]

/-- A write that passes the bus checks is dropped while a command is in flight (R465). -/
theorem step_write_busy {s : State} {off : Nat} {v : Word} {rest : List Event} (hbusy : s.pending ≠ none)
    (hin : s.inbox = .write .w32 off v :: rest) (hoff : off < 256) (halign : off % 4 = 0) :
    step s = .next ({ s with inbox := rest }.recordError .busyAccess) := by
  have hcheck : busCheck .w32 off = none := (busCheck_none_iff _ _).2 ⟨rfl, hoff, halign⟩
  have hset : ({ s with inbox := rest } : State).busy = true := Option.isSome_iff_ne_none.2 hbusy
  rw [StepLaws.step_of_inbox_cons s _ rest hin, taken_of_inbox_cons hin, handleEvent, hostWrite, hcheck, writeSlot,
    if_pos hset]

/-- A write to an idle block's register is that register's own write. -/
theorem step_write_reg {s t : State} {off : Nat} {v : Word} {rest : List Event} {r : Reg} (hidle : s.pending = none)
    (hin : s.inbox = .write .w32 off v :: rest) (hr : regAt off = some r)
    (ht : writeReg r v { s with inbox := rest } = t) (hoff : off < 256 := by decide)
    (halign : off % 4 = 0 := by decide) : step s = .next t :=
  ((step_write_idle hidle hin hoff halign).1 r hr).trans (congrArg _ ht)

/-- Settles O42, by `step_write_busy`. -/
theorem writeWhileBusyIsDropped : Obligations.WriteWhileBusyIsDropped := by
  intro s off v w rest hpend hoff halign hin
  exact step_write_busy (by simp [hpend]) hin hoff halign

/-! ### CMD (R311, R323) -/

/-- Settles O7: an idle block issues the word, an illegal one fails at its completion, a busy block drops it. -/
theorem cmdWriteIssues : Obligations.CmdWriteIssues := by
  intro s w rest hin
  have hissue (hidle : s.pending = none) : step s = .next ({ s with inbox := rest }.issue w) :=
    step_write_reg hidle hin (r := .cmd) rfl rfl
  refine ⟨hissue, fun hidle hhead hillegal => ?_, fun hbusy => step_write_busy hbusy hin (by decide) rfl⟩
  rw [StepLaws.runSteps_succ_of_step s _ 1 (hissue hidle), StepLaws.runSteps_one,
    step_of_illegal rfl (.inr hhead) hillegal, State.retire, ← hidle]
  rfl

/-! ### STATUS and the interrupt registers (R315 to R317, R411) -/

theorem statusW1c_eq (s : State) (v : Word) :
    s.statusW1c v = { s with
      err := s.err && !v.getLsbD 1
      errCode := if v.getLsbD 1 then .noError else s.errCode
      sync := { s.sync with diverged := s.sync.diverged && !v.getLsbD 2 } } := by
  simp only [State.statusW1c, bit_eq_getLsbD, Bool.if_false_left, Bool.decide_eq_true, Bool.and_comm]

/-- Settles O46, by `statusW1c_eq`. -/
theorem statusWriteOneToClear : Obligations.StatusWriteOneToClear := by
  intro s v rest hidle hin
  exact step_write_reg hidle hin (r := .status) rfl (statusW1c_eq _ v)

/-- A word is not 0 exactly where one of its bits is set. -/
theorem ne_zero_iff_exists_getLsbD {n : Nat} (p : BitVec n) : p ≠ 0 ↔ ∃ b, b < n ∧ p.getLsbD b = true := by
  constructor
  · intro hne
    by_contra! hclear
    exact hne (BitVec.eq_of_getLsbD_eq fun b hb => by simpa using hclear b hb)
  · rintro ⟨b, -, hset⟩ rfl
    simp at hset

theorem irq_iff (s : State) :
    s.irq = true ↔ ∃ b, b < 4 ∧ s.irqPend.getLsbD b = true ∧ s.irqEn.getLsbD b = true := by
  rw [State.irq, bne_iff_ne, ne_zero_iff_exists_getLsbD]
  simp only [BitVec.getLsbD_and, Bool.and_eq_true]

/-- Settles O47: the two registers' writes, and the bits of the pending and enabled events. -/
theorem interruptRegisters : Obligations.InterruptRegisters := by
  refine ⟨fun s v rest hidle => ⟨fun hin => ?_, fun hin => ?_⟩, irq_iff⟩
  · exact step_write_reg hidle hin (r := .irqPend) rfl rfl
  · exact step_write_reg hidle hin (r := .irqEn) rfl rfl

/-! ### MODE and LAYOUT (R313, R318) -/

theorem modeWrite_of_illegal {v : Word} (s : State) (h : bits v 15 8 < 4 ∨ 64 < bits v 15 8) :
    modeWrite v s = s.recordError .modeInvalid := if_pos h

theorem layoutWrite_of_illegal {v : Word} (s : State) (h : bits v 7 0 + bits v 15 8 < 1 ∨ bits v 23 16 < 1) :
    layoutWrite v s = s.recordError .modeInvalid := if_pos h

/-- A legal MODE: the new SPS, which the mask keeps, gives W. -/
theorem modeWrite_of_legal {v : Word} (s : State) (h : 4 ≤ bits v 15 8 ∧ bits v 15 8 ≤ 64) :
    modeWrite v s = { s.unitReset with
      mode := v &&& 0x0000FF01
      sync := { syncReset s.sync with w := fdiv ftwo (fofNat (bits v 15 8)) } } := by
  have hsps : { s with mode := v &&& 0x0000FF01 }.sps = bits v 15 8 := bits_and v _ (by decide) (by decide)
  rw [modeWrite, if_neg (by omega), ← hsps]
  rfl

theorem layoutWrite_of_legal {v : Word} (s : State) (h : 1 ≤ bits v 7 0 + bits v 15 8 ∧ 1 ≤ bits v 23 16) :
    layoutWrite v s = { s.unitReset with
      layout := v &&& 0x00FFFFFF
      sync := { syncReset s.sync with w := fdiv ftwo (fofNat s.sps) } } := by
  rw [layoutWrite, if_neg (by omega)]
  rfl

/-- Settles O48, by the legal and the illegal write of each of the two registers. -/
theorem modeChange : Obligations.ModeChange := by
  intro s v rest hidle
  have hlow : v.toNat % 256 = bits v 7 0 := (DecoderLaws.bits_zero v 7).symm
  refine ⟨fun hin => ⟨fun h => ?_, fun h => ?_⟩, fun hin => ⟨fun h => ?_, fun h => ?_⟩⟩
  · exact step_write_reg hidle hin (r := .mode) rfl (modeWrite_of_legal _ h)
  · exact step_write_reg hidle hin (r := .mode) rfl (modeWrite_of_illegal _ h)
  · rw [hlow] at h
    exact step_write_reg hidle hin (r := .layout) rfl (layoutWrite_of_legal _ h)
  · rw [hlow] at h
    exact step_write_reg hidle hin (r := .layout) rfl (layoutWrite_of_illegal _ h)

/-! ### TPL, SEARCH and CORR_THRESH (R319 to R321) -/

theorem tplWrite_of_legal {v : Word} (s : State) (h : 1 ≤ bits v 24 16 ∧ bits v 24 16 ≤ 256) :
    tplWrite v s = { s with tpl := v &&& 0x01FFFFFF } := by
  rw [tplWrite, Config.tplMax, if_neg (by omega)]

theorem tplWrite_of_illegal {v : Word} (s : State) (h : bits v 24 16 < 1 ∨ 256 < bits v 24 16) :
    tplWrite v s = s.recordError .argRange := if_pos h

theorem searchWrite_of_legal {v : Word} (s : State) (h : 1 ≤ bits v 12 0 ∧ bits v 12 0 ≤ 4096) :
    searchWrite v s = { s with search := v &&& 0x1FFF } := by
  rw [searchWrite, Config.searchMax, if_neg (by omega), ofNat_bits_eq_and]

theorem searchWrite_of_illegal {v : Word} (s : State) (h : bits v 12 0 < 1 ∨ 4096 < bits v 12 0) :
    searchWrite v s = s.recordError .argRange := if_pos h

/-- The legal thresholds by their patterns: a clear sign bit and at most 1.0, or -0.0 (R321). -/
theorem validThresh_iff (v : Word) : validThresh v = true ↔ v.toNat ≤ 0x3F800000 ∨ v = 0x80000000 := by
  have hlt := v.isLt
  have hzero : orderKey fzero = 0 := by decide
  have hone : orderKey fone = 0x3F800000 := by decide
  have hnegZero : v = 0x80000000 ↔ v.toNat = 0x80000000 := BitVec.toNat_inj.symm
  have hvalid : validThresh v = true ↔ magBits v < infMag ∧ 0 ≤ orderKey v ∧ orderKey v ≤ 0x3F800000 := by
    rw [validThresh, Bool.and_eq_true, Bool.and_eq_true, FloatLaws.isFinite_iff, fge_iff, fle_iff, hzero, hone]
    constructor
    · rintro ⟨⟨hfin, -, -, hlow⟩, -, -, hhigh⟩
      exact ⟨hfin, hlow, hhigh⟩
    · rintro ⟨hfin, hlow, hhigh⟩
      have hnum := isFinite_not_nan v ((FloatLaws.isFinite_iff v).2 hfin)
      exact ⟨⟨hfin, by decide, hnum, hlow⟩, hnum, by decide, hhigh⟩
  rw [hvalid, hnegZero, orderKey, signBit, magBits, infMag]
  by_cases hsign : 2 ^ 31 ≤ v.toNat
  · rw [if_pos (decide_eq_true hsign)]
    omega
  · rw [if_neg (by simpa using hsign)]
    omega

/-- Settles O49, by the legal and the illegal write of each of the three registers. -/
theorem validatedWrites : Obligations.ValidatedWrites := by
  intro s v rest hidle
  have hlow : v.toNat % 8192 = bits v 12 0 := (DecoderLaws.bits_zero v 12).symm
  refine ⟨fun hin => ⟨fun h => ?_, fun h => ?_⟩, fun hin => ⟨fun h => ?_, fun h => ?_⟩,
    fun hin => ⟨fun h => ?_, fun ⟨hhigh, hne⟩ => ?_⟩⟩
  · exact step_write_reg hidle hin (r := .tpl) rfl (tplWrite_of_legal _ h)
  · exact step_write_reg hidle hin (r := .tpl) rfl (tplWrite_of_illegal _ h)
  · rw [hlow] at h
    exact step_write_reg hidle hin (r := .search) rfl (searchWrite_of_legal _ h)
  · rw [hlow] at h
    exact step_write_reg hidle hin (r := .search) rfl (searchWrite_of_illegal _ h)
  · exact step_write_reg hidle hin (r := .corrThresh) rfl (if_pos ((validThresh_iff v).2 h))
  · have hillegal : ¬validThresh v = true := fun hvalid =>
      ((validThresh_iff v).1 hvalid).elim (not_le.2 hhigh) hne
    exact step_write_reg hidle hin (r := .corrThresh) rfl (if_neg hillegal)

end Sys2Proof.ControlLaws
end

section
/-! # What every command keeps, and the samples it rejects (60_exceptions.md R400 to R406, 10_state.md R43 to R55)

No command stops. The registers and fields that none writes (O9) and the writers of the unit flags are read off the
effects of `StateLaws.Effect`; the writers of the point, RESULT and SOFT off the commands themselves, since the effect
`computed` is common to them. A sample or a point is valid by the magnitude patterns of its components, and each
command that takes an invalid one records SAMPLE_INVALID (O25). -/

namespace Sys2Proof.ExceptionLaws

open Sys2Proof Sys2Proof.Machine Sys2Proof.Safety Sys2Proof.StateLaws

/-! ### What no command writes (R55, R400, R410) -/

/-- The registers and fields that no command writes are the same in s and t. -/
structure FixedKept (s t : State) : Prop where
  cmd : t.cmd = s.cmd := by rfl
  pending : t.pending = s.pending := by rfl
  irqEn : t.irqEn = s.irqEn := by rfl
  mode : t.mode = s.mode := by rfl
  layout : t.layout = s.layout := by rfl
  tpl : t.tpl = s.tpl := by rfl
  search : t.search = s.search := by rfl
  corrThresh : t.corrThresh = s.corrThresh := by rfl
  zeta : t.zeta = s.zeta := by rfl
  omega : t.omega = s.omega := by rfl
  sampI : t.sampI = s.sampI := by rfl
  sampQ : t.sampQ = s.sampQ := by rfl
  w : t.sync.w = s.sync.w := by rfl
  inbox : t.inbox = s.inbox := by rfl
  replies : t.replies = s.replies := by rfl
  freeCount : t.freeCount = s.freeCount := by rfl

theorem FixedKept.of_effect {s t : State} {i : Instr} (h : Effect s i t) : FixedKept s t := by
  cases h with
  | samplePushed hx emitted clamped =>
    obtain ⟨hw, -⟩ := pushSample_frame s.sync s.sample
    exact { w := hw }
  | _ => exact {}

/-- Where no flag falls, the pending events of s are among those of t. -/
theorem events_and_of_flagsKept {s t : State} (h : FlagsKept s t) : s.irqPend &&& t.irqPend = s.irqPend := by
  refine BitVec.eq_of_getLsbD_eq fun b _ => ?_
  rw [BitVec.getLsbD_and, Bool.and_eq_left_iff_imp]
  exact h.events b

/-! ### The writers of the units' flags (R55, R312) -/

/-- Only the synchronizer's commands and SOFT_RESET write SYM_VALID (R55, R312). -/
theorem symValid_of_effect {s t : State} {i : Instr} (h : Effect s i t) :
    t.sync.symValid = s.sync.symValid ∨ i ∈ [.softReset, .syncCfg, .syncReset, .syncPush] := by
  cases h with
  | unitsReset | configured _ | configRejected | synchronizerReset | samplePushed _ _ _ => exact .inr (by decide)
  | _ => exact .inl rfl

/-- Only CORR_SWEEP and the resets of the correlator write ACQ and SWEEP_VALID: a push keeps both (R55, R273, R312). -/
theorem sweepFlags_of_effect {s t : State} {i : Instr} (h : Effect s i t) :
    (t.corr.acq = s.corr.acq ∧ t.corr.sweepValid = s.corr.sweepValid) ∨
      i ∈ [.softReset, .corrReset, .corrSweep] := by
  cases h with
  | unitsReset | correlatorReset | swept _ _ _ _ => exact .inr (by decide)
  | sampleAppended hx =>
    obtain ⟨-, heq⟩ | ⟨-, heq⟩ := corrAppend_cases s.corr s.sample
    · exact .inl (heq ▸ ⟨rfl, rfl⟩)
    · exact .inl (heq ▸ ⟨rfl, rfl⟩)
  | _ => exact .inl ⟨rfl, rfl⟩

/-! ### The writers of the point, RESULT and SOFT (R43 to R45) -/

/-- The commands that write PT_I and PT_Q (R43). -/
def WritesPoint (i : Instr) : Prop := (∃ d st, i = .mapEnc d st) ∨ ∃ d, i = .txSym d

/-- The commands that write RESULT (R44). -/
def WritesResult (i : Instr) : Prop :=
  i = .scrNext ∨ (∃ n, 0 < n ∧ i = .scrAdvance n) ∨ (∃ d st, i = .mapEnc d st) ∨ (∃ st, i = .mapDec st) ∨
    (∃ d, i = .txSym d) ∨ i = .rxSym ∨ ∃ pos, i = .layoutClass pos

/-- The commands that write SOFT (R45). -/
def WritesSoft (i : Instr) : Prop := (∃ st, i = .mapDec st) ∨ i = .rxSym

/-- The point, RESULT and SOFT are the same in s and t where the command is none of their writers. -/
structure OutputsKept (s : State) (i : Instr) (t : State) : Prop where
  point : WritesPoint i ∨ t.point = s.point := by exact .inr rfl
  result : WritesResult i ∨ t.result = s.result := by exact .inr rfl
  soft : WritesSoft i ∨ t.soft = s.soft := by exact .inr rfl

/-- The result is a next state that keeps the outputs which the command does not write. -/
def AnswersOutputs (s : State) (i : Instr) (r : Result) : Prop := ∃ t, r = .next t ∧ OutputsKept s i t

theorem AnswersOutputs.next {s t : State} {i : Instr} (h : OutputsKept s i t) : AnswersOutputs s i (.next t) :=
  ⟨t, rfl, h⟩

theorem AnswersOutputs.raiseError {s : State} {i : Instr} {c : ErrorCode} : AnswersOutputs s i (raiseError c s) :=
  .next {}

theorem AnswersOutputs.ite {s : State} {i : Instr} {p : Prop} [Decidable p] {a b : Result}
    (ha : p → AnswersOutputs s i a) (hb : ¬p → AnswersOutputs s i b) : AnswersOutputs s i (if p then a else b) := by
  split
  · exact ha ‹_›
  · exact hb ‹_›

/-- Every command answers a next state, and writes its own outputs only (R43 to R45, R400, R403). -/
theorem exec_answersOutputs (i : Instr) (s : State) : AnswersOutputs s i (exec i s) := by
  cases i with
  | nop => exact .next {}
  | softReset => exact .next {}
  | scrReset => exact .next {}
  | scrNext => exact .next { result := .inl (.inl rfl) }
  | scrAdvance count =>
    have hwrites (h : ¬count = 0) : WritesResult (.scrAdvance count) := .inr (.inl ⟨count, Nat.pos_of_ne_zero h, rfl⟩)
    exact .ite (fun _ => .next {}) fun h => .next { result := .inl (hwrites h) }
  | mapEnc d st =>
    have hpoint : WritesPoint (.mapEnc d st) := .inl ⟨d, st, rfl⟩
    have hresult : WritesResult (.mapEnc d st) := .inr (.inr (.inl ⟨d, st, rfl⟩))
    exact .ite (fun _ => .raiseError) fun _ => .next { point := .inl hpoint, result := .inl hresult }
  | mapDec st =>
    have hresult : WritesResult (.mapDec st) := .inr (.inr (.inr (.inl ⟨st, rfl⟩)))
    have hsoft : WritesSoft (.mapDec st) := .inl ⟨st, rfl⟩
    exact .ite (fun _ => .next { result := .inl hresult, soft := .inl hsoft }) fun _ => .raiseError
  | txSym d =>
    have hpoint : WritesPoint (.txSym d) := .inr ⟨d, rfl⟩
    have hresult : WritesResult (.txSym d) := .inr (.inr (.inr (.inr (.inl ⟨d, rfl⟩))))
    exact .ite (fun _ => .raiseError) fun _ => .next { point := .inl hpoint, result := .inl hresult }
  | rxSym =>
    have hresult : WritesResult .rxSym := .inr (.inr (.inr (.inr (.inr (.inl rfl)))))
    have hsoft : WritesSoft .rxSym := .inr rfl
    exact .ite (fun _ => .next { result := .inl hresult, soft := .inl hsoft }) fun _ => .raiseError
  | layoutClass pos =>
    have hresult : WritesResult (.layoutClass pos) := .inr (.inr (.inr (.inr (.inr (.inr ⟨pos, rfl⟩)))))
    have hanswer (index strib cls : Nat) :
        AnswersOutputs s (.layoutClass pos) (.next (s.setResult 0 index strib cls)) :=
      .next { result := .inl hresult }
    exact .ite (fun _ => .raiseError) fun _ => .ite (fun _ => hanswer ..) fun _ => hanswer ..
  | syncCfg => exact .ite (fun _ => .next {}) fun _ => .next {}
  | syncReset => exact .next {}
  | syncPush => exact .ite (fun _ => .raiseError) fun _ => .ite (fun _ => .raiseError) fun _ => .next {}
  | corrReset => exact .next {}
  | corrPush => exact .ite (fun _ => .next {}) fun _ => .raiseError
  | corrSweep => exact .ite (fun _ => .raiseError) fun _ => .ite (fun _ => .raiseError) fun _ => .next {}

/-- Settles O9: the answer of `exec_answersOutputs` is one of the command's effects, which say the rest. -/
theorem noCommandStops : Obligations.NoCommandStops := by
  intro i s
  obtain ⟨t, hexec, hpoint, hresult, hsoft⟩ := exec_answersOutputs i s
  have heffect := effect_of_exec hexec
  have hfixed := FixedKept.of_effect heffect
  have hflags := FlagsKept.of_effect heffect
  have hcfg : t.sync.cfgValid = s.sync.cfgValid ∨ i = .syncCfg :=
    (GainsKept.of_effect heffect).imp_left GainsKept.cfgValid
  refine ⟨t, hexec, hfixed.cmd, hfixed.pending, hfixed.irqEn, hfixed.mode, hfixed.layout, hfixed.tpl, hfixed.search,
    hfixed.corrThresh, hfixed.zeta, hfixed.omega, hfixed.sampI, hfixed.sampQ, hfixed.w, hfixed.inbox, hfixed.replies,
    hfixed.freeCount, events_and_of_flagsKept hflags, hflags.err, hflags.diverged, fun hne => ?point,
    hresult.resolve_right, hsoft.resolve_right, hcfg.resolve_left, (symValid_of_effect heffect).resolve_left,
    fun hne => ?sweep⟩
  case point =>
    refine hpoint.resolve_right fun heq => ?_
    exact hne.elim (· (congrArg Cplx.i heq)) (· (congrArg Cplx.q heq))
  case sweep =>
    refine (sweepFlags_of_effect heffect).resolve_left fun ⟨hacq, hvalid⟩ => ?_
    exact hne.elim (· hacq) (· hvalid)

/-! ### Invalid samples and points (R406) -/

/-- A component is valid by its magnitude pattern, which excludes infinities and NaNs (R406). -/
theorem validComponent_iff (a : F32) : validComponent a = true ↔ a.toNat % 2 ^ 31 ≤ 0x47800000 := by
  have hkey : orderKey (fabs a) = magBits a := by rw [orderKey, FloatLaws.signBit_fabs, FloatLaws.magBits_fabs]; rfl
  have hmax : orderKey sampleMax = 0x47800000 := by decide
  have hnum : isNaN sampleMax = false := by decide
  rw [validComponent, Bool.and_eq_true, FloatLaws.isFinite_iff, fle_iff, FloatLaws.isNaN_fabs, hkey, hmax, ← magBits]
  constructor
  · rintro ⟨-, -, -, hle⟩
    exact Int.ofNat_le.1 hle
  · intro hle
    have hfin : magBits a < infMag := hle.trans_lt (by decide)
    exact ⟨hfin, isFinite_not_nan a ((FloatLaws.isFinite_iff a).2 hfin), hnum, Int.ofNat_le.2 hle⟩

theorem exec_mapDec_of_invalid {s : State} (h : validSample s.point = false) (st : Nat) :
    exec (.mapDec st) s = .next (s.recordError .sampleInvalid) := if_neg (Bool.eq_false_iff.1 h)

theorem exec_corrPush_of_invalid {s : State} (h : validSample s.sample = false) :
    exec .corrPush s = .next (s.recordError .sampleInvalid) := if_neg (Bool.eq_false_iff.1 h)

/-- A configured push checks its sample before it touches the synchronizer (R228, R404). -/
theorem exec_syncPush_of_invalid {s : State} (hcfg : s.sync.cfgValid = true) (h : validSample s.sample = false) :
    exec .syncPush s = .next (s.recordError .sampleInvalid) :=
  (if_neg (by rw [hcfg]; exact Bool.false_ne_true)).trans (if_pos (by rw [h]; rfl))

/-- Settles O25, by `validComponent_iff` and the check each of the four commands makes first. -/
theorem invalidSamplesAreRejected : Obligations.InvalidSamplesAreRejected := by
  refine ⟨fun z => ?_, fun s st => ⟨fun hpoint => ?_, fun hsample => ?_⟩⟩
  · rw [validSample, Bool.and_eq_true, validComponent_iff, validComponent_iff]
  · exact ⟨exec_mapDec_of_invalid hpoint st, MapperLaws.exec_rxSym_of_invalid hpoint⟩
  · exact ⟨exec_corrPush_of_invalid hsample, fun hcfg => exec_syncPush_of_invalid hcfg hsample⟩

end Sys2Proof.ExceptionLaws
end

section
/-! # Accesses during a command, and hardware reset (70_reset_and_hazards.md R450, R462, R465, R466, R470)

A host access while a command is in flight leaves a state that agrees with the one before it in all that a command
reads (`agree_of_busyAccess`), and a completion keeps that agreement (`complete_agree`); so the accesses may be left out
(O11). After `rst` the window reads the constants of R450 (O54), and the reset state has what every event keeps of the
model's invariants (O55). -/

namespace Sys2Proof.HazardLaws

open Sys2Proof Sys2Proof.Machine Sys2Proof.Safety Sys2Proof.StateLaws

/-! ### Agreement -/

/-- s with the error record, the events and the model's own fields of t. -/
def takeRecord (s t : State) : State :=
  { s with
    err := t.err, errCode := t.errCode, irqPend := t.irqPend
    inbox := t.inbox, replies := t.replies, freeCount := t.freeCount }

theorem agree_iff_takeRecord_eq (s t : State) : AgreeButForErrors s t ↔ takeRecord s t = t := Iff.rfl

theorem agree_takeRecord (s u : State) : AgreeButForErrors s (takeRecord s u) := rfl

theorem agree_symm {s t : State} (h : AgreeButForErrors s t) : AgreeButForErrors t s :=
  (congrArg (takeRecord · s) h).symm

theorem agree_trans {s t u : State} (hst : AgreeButForErrors s t) (htu : AgreeButForErrors t u) :
    AgreeButForErrors s u :=
  (congrArg (takeRecord · u) hst).trans htu

theorem agree_pending {s t : State} (h : AgreeButForErrors s t) : t.pending = s.pending :=
  (congrArg State.pending h).symm

theorem agree_recordError {s t : State} (h : AgreeButForErrors s t) (c : ErrorCode) :
    AgreeButForErrors (s.recordError c) (t.recordError c) :=
  congrArg (State.recordError · c) h

/-- An inbox that moves on is no difference. -/
theorem agree_taken (s : State) : AgreeButForErrors s s.taken := rfl

/-! ### Completions -/

/-- Both results are next states, and the two agree. -/
def AnswersAgree (a b : Result) : Prop := ∃ t u, a = .next t ∧ b = .next u ∧ AgreeButForErrors t u

theorem AnswersAgree.next {t u : State} (h : AgreeButForErrors t u) : AnswersAgree (.next t) (.next u) :=
  ⟨t, u, rfl, rfl, h⟩

theorem AnswersAgree.ite {p : Prop} [Decidable p] {a b a' b' : Result} (ha : AnswersAgree a a')
    (hb : AnswersAgree b b') : AnswersAgree (if p then a else b) (if p then a' else b') := by
  split
  · exact ha
  · exact hb

/-- No command reads what the host's accesses write while it is in flight (R462, R465, R466). -/
theorem exec_takeRecord (i : Instr) (s u : State) : AnswersAgree (exec i s) (exec i (takeRecord s u)) := by
  cases i with
  | nop => exact .next rfl
  | softReset => exact .next rfl
  | scrReset => exact .next rfl
  | scrNext => exact .next rfl
  | scrAdvance count => exact .ite (.next rfl) (.next rfl)
  | mapEnc d st => exact .ite (.next rfl) (.next rfl)
  | mapDec st => exact .ite (.next rfl) (.next rfl)
  | txSym d => exact .ite (.next rfl) (.next rfl)
  | rxSym => exact .ite (.next rfl) (.next rfl)
  | layoutClass pos => exact .ite (.next rfl) (.ite (.next rfl) (.next rfl))
  | syncCfg => exact .ite (.next rfl) (.next rfl)
  | syncReset => exact .next rfl
  | syncPush => exact .ite (.next rfl) (.ite (.next rfl) (.next rfl))
  | corrReset => exact .next rfl
  | corrPush => exact .ite (.next rfl) (.next rfl)
  | corrSweep => exact .ite (.next rfl) (.ite (.next rfl) (.next rfl))

theorem exec_agree (i : Instr) {s t : State} (h : AgreeButForErrors s t) : AnswersAgree (exec i s) (exec i t) :=
  (agree_iff_takeRecord_eq s t).1 h ▸ exec_takeRecord i s t

/-- States that agree complete their pending command alike (R311, R405). -/
theorem complete_agree {s t : State} (h : AgreeButForErrors s t) : AnswersAgree (complete s) (complete t) := by
  have hretire : AgreeButForErrors s.retire t.retire := congrArg State.retire h
  simp only [complete, agree_pending h]
  cases s.pending with
  | none => exact .next h
  | some w =>
    dsimp only
    cases decode w with
    | error e => exact .next (agree_recordError hretire .illegalCmd)
    | ok i => exact exec_agree i hretire

/-- The same of the step whose next event is the completion. -/
theorem complete_agree_step {s t : State} {rest : List Event} (h : AgreeButForErrors s t)
    (hin : t.inbox = .complete :: rest) : AnswersAgree (complete s) (step t) := by
  rw [StepLaws.step_of_inbox_cons t .complete rest hin]
  exact complete_agree (agree_trans h (agree_taken t))

/-! ### Accesses while busy -/

/-- While BUSY = 1 an access touches the error record, the events and the model's own fields only (R465, R466). -/
theorem agree_of_busyAccess {ev : Event} {s t : State} (hbusy : s.busy = true) (hacc : isAccess ev = true)
    (h : handleEvent ev s = .next t) : AgreeButForErrors s t := by
  have hidle : ¬s.busy = false := by simp [hbusy]
  cases ev with
  | read width off =>
    obtain ⟨-, ⟨-, -, rfl⟩ | ⟨-, rfl⟩⟩ := hostRead_cases width off s t h
    · rfl
    · rfl
  | write width off v =>
    obtain ⟨-, ⟨-, rfl⟩ | ⟨hfalse, -⟩ | ⟨hfalse, -⟩⟩ := hostWrite_cases width off v s t h
    · rfl
    · exact absurd hfalse hidle
    · exact absurd hfalse hidle
  | complete => exact absurd hacc Bool.false_ne_true
  | rst => exact absurd hacc Bool.false_ne_true

/-- Steps through accesses and the completion after them end in the completion of a state that agrees with the first. -/
theorem runSteps_accesses_complete (evs rest : List Event) (s : State) (hbusy : s.busy = true)
    (hevs : ∀ ev ∈ evs, isAccess ev = true ∧ passes ev = true) (hin : s.inbox = evs ++ .complete :: rest) :
    ∃ t, runSteps (evs.length + 1) s = complete t ∧ AgreeButForErrors s t := by
  induction evs generalizing s with
  | nil =>
    refine ⟨s.taken, ?_, agree_taken s⟩
    rw [List.length_nil, StepLaws.runSteps_one, StepLaws.step_of_inbox_cons s .complete rest hin, handleEvent]
  | cons ev evs ih =>
    obtain ⟨⟨hacc, hpass⟩, hevs⟩ := List.forall_mem_cons.1 hevs
    obtain ⟨u, hu⟩ := (StepLaws.handleEvent_next_iff ev s.taken).2 hpass
    have hstep : step s = .next u := (StepLaws.step_of_inbox_cons s ev _ hin).trans hu
    have hagree : AgreeButForErrors s u := agree_trans (agree_taken s) (agree_of_busyAccess hbusy hacc hu)
    have hubusy : u.busy = true := by rw [State.busy, agree_pending hagree]; exact hbusy
    have huin : u.inbox = evs ++ .complete :: rest := by
      rw [StepLaws.handleEvent_inbox ev s.taken u hu, State.taken_inbox, hin]
      rfl
    obtain ⟨t, hrun, ht⟩ := ih u hubusy hevs huin
    exact ⟨t, (StepLaws.runSteps_succ_of_step s u _ hstep).trans hrun, agree_trans hagree ht⟩

/-- Settles O11: both runs complete states that agree with s, the second after no access. -/
theorem accessesWhileBusyDoNotDisturb : Obligations.AccessesWhileBusyDoNotDisturb := by
  intro s w evs rest hpend hevs hin
  have hbusy : s.busy = true := by rw [State.busy, hpend]; rfl
  obtain ⟨t, hrun, ht⟩ := runSteps_accesses_complete evs rest s hbusy hevs hin
  have halone : AgreeButForErrors s { s with inbox := .complete :: rest } := rfl
  rw [hrun]
  exact complete_agree_step (agree_trans (agree_symm ht) halone) rfl

/-! ### Hardware reset (R450) -/

/-- The offsets of the registers whose reset value is not 0 (R450). -/
def nonzeroAtReset : List Nat := [0x00, 0x14, 0x18, 0x1C, 0x20, 0x24, 0x50, 0x54, 0x6C]

/-- No flag of STATUS is set after reset, and the error code is 0. -/
theorem statusWord_hardReset (s : State) : s.hardReset.statusWord = 0 :=
  BitVec.eq_of_toNat_eq (statusWord_toNat s.hardReset)

/-- SCR_STATE shows SCR_INIT at position 0 after reset. -/
theorem scrState_hardReset (s : State) : readReg .scrState s.hardReset = 0x00000BAD :=
  BitVec.eq_of_toNat_eq (scrState_toNat s.hardReset (by decide : 0 < 256))

/-- SYNC_STAT shows PHASE = 1 and no sample or symbol after reset. -/
theorem syncStat_hardReset (s : State) : readReg .syncStat s.hardReset = 0x00000008 :=
  BitVec.eq_of_toNat_eq (syncStat_toNat s.hardReset (by decide : 0 < 8))

/-- A register with another reset value than 0 stands at one of the listed offsets (R32, R450). -/
theorem readReg_hardReset_eq_zero_or (r : Reg) (s : State) :
    readReg r s.hardReset = 0 ∨ ∃ off ∈ nonzeroAtReset, off % 4 = 0 ∧ regAt off = some r := by
  cases r with
  | id => exact .inr ⟨0x00, by decide, rfl, rfl⟩
  | mode => exact .inr ⟨0x14, by decide, rfl, rfl⟩
  | layout => exact .inr ⟨0x18, by decide, rfl, rfl⟩
  | tpl => exact .inr ⟨0x1C, by decide, rfl, rfl⟩
  | search => exact .inr ⟨0x20, by decide, rfl, rfl⟩
  | corrThresh => exact .inr ⟨0x24, by decide, rfl, rfl⟩
  | scrState => exact .inr ⟨0x50, by decide, rfl, rfl⟩
  | syncStat => exact .inr ⟨0x54, by decide, rfl, rfl⟩
  | syncW => exact .inr ⟨0x6C, by decide, rfl, rfl⟩
  | status => exact .inl (statusWord_hardReset s)
  | _ => exact .inl rfl

theorem readSlot_hardReset_eq_zero {off : Nat} (s : State) (halign : off % 4 = 0) (hoff : off ∉ nonzeroAtReset) :
    readSlot off s.hardReset = 0 := by
  rw [readSlot]
  cases hr : regAt off with
  | none => rfl
  | some r =>
    refine (readReg_hardReset_eq_zero_or r s).resolve_right fun ⟨off', hmem, halign', hr'⟩ => hoff ?_
    rwa [eq_of_regAt_eq hr hr' halign halign']

/-- Settles O54: the listed registers hold constants, and every other slot reads 0. -/
theorem hardResetValues : Obligations.HardResetValues := by
  intro s rest hin
  have hstep : step s = .next s.taken.hardReset := StepLaws.step_of_inbox_cons s .rst rest hin
  have hinbox : s.taken.hardReset.inbox = rest := by rw [ControlLaws.taken_of_inbox_cons hin, State.hardReset_inbox]
  have hirq : s.taken.hardReset.irq = false := (by decide : State.reset.irq = false)
  exact ⟨_, hstep, rfl, hirq, hinbox, rfl, rfl, statusWord_hardReset _, rfl, rfl, rfl, rfl, rfl, rfl, rfl,
    scrState_hardReset _, syncStat_hardReset _, rfl, fun _ _ => readSlot_hardReset_eq_zero s.taken, rfl, rfl, rfl⟩

/-- Settles O55: the reset state is its own hardware reset, which has every invariant that events keep. -/
theorem invariantsAtReset : Obligations.InvariantsAtReset := by
  obtain ⟨⟨hconfig, hunits⟩, hloop⟩ := TimingLaws.loopBounded_keptByEvents.hardReset State.reset
  exact ⟨hconfig, hunits, controlSound_keptByEvents.hardReset State.reset, hloop⟩

end Sys2Proof.HazardLaws
end
